-- ==== Sys2Proof/Word.lean ====
section
/-! DEFINITION. Word.lean: the word types of the hyperstone E1 (spec/00_scope.md R7: words of 32 bits, half-words of 16, bytes of 8). -/

namespace Sys2Proof

/-- A word: a register, an address, an operand (R7, R90). -/
abbrev Word := BitVec 32

/-- A half-word: the unit of an instruction (R7, R130). -/
abbrev Half := BitVec 16

/-- A byte: the unit of memory (R7, R90). -/
abbrev Byte := BitVec 8

end Sys2Proof
end

