-- ==== Sys2Proof/Config.lean ====
section
/-! DEFINITION. Config.lean: what the spec leaves to the platform, and the free values. Nothing here has a value that a proof
can see, but the byte of memory that nothing has written since power-up (log 4). -/

namespace Sys2Proof

/-- One access to the I/O address space as a device sees it, with the address bits on the pins (spec/20_memory.md R108, R109). -/
inductive IoEvent where
  | read (addr : Word)
  | write (addr data : Word)
  deriving DecidableEq, Repr

/-- The free values ("undefined", "any value": spec/92_eei_decisions.md D7, 93 U6, U7, U22, U33 to U35): the n-th draw. UNINTERPRETED: no
proof can know a value of it (log 6). -/
opaque Config.freeWord : Nat → Word

/-- The platform parameter IO (00_scope R6, 20_memory R108): what the devices answer to a read of an I/O address, by the bits of it
that leave the chip (R109), given all accesses they have seen so far, the newest first. UNINTERPRETED (log 28). -/
opaque Config.ioRead : List IoEvent → Word → Word

/-- What a cell of memory reads as that nothing has written since its area lost its content for the n-th time, by number of the loss and cell
("undefined", "lost": 70 R583, 61 R544, 93 U1). UNINTERPRETED (log 33). -/
opaque Config.lostByte : Nat → Nat → Byte

/-- What a cell of memory that nothing has written since power-up reads as. DESIGN CHOICE, unsafe (log 4). -/
def Config.blankByte : Byte := 0

end Sys2Proof
end

