-- ==== Sys2Proof/Syntax.lean ====
section
/-! DEFINITION. Syntax.lean: the instructions of the hyperstone E1, one constructor for each row of spec/opcode_table.json, with the
operand forms of spec/30_encoding.md. Every operand keeps the form it was encoded in (short or long), since the form is the
instruction's length (R150). -/

namespace Sys2Proof

/-- A register operand (R131): d or s = 1 names L0..L15, d or s = 0 names G0..G15 (G16..G31 when H = 1, 10_state R62). -/
inductive Reg where
  | l (code : BitVec 4)
  | g (code : BitVec 4)
  deriving DecidableEq, Repr

/-- The immediate operand of format Rimm (R143, R145): `short n` for every n that has no further half-word, `word` for n = 17,
`low` for n = 18 (16 zeros//imm1), `high` for n = 19 (16 ones//imm1). -/
inductive Imm where
  | short (n : BitVec 5)
  | word (v : Word)
  | low (v : Half)
  | high (v : Half)
  deriving DecidableEq, Repr

/-- The operand const of formats LRconst and RRconst (R140): S//const1 (e = 0) or S//const1//const2 (e = 1). -/
inductive Const where
  | short (v : BitVec 15)
  | long (v : BitVec 31)
  deriving DecidableEq, Repr

/-- The operand lim of format RRlim (R144): lim1 (e = 0) or lim1//lim2 (e = 1), unsigned. -/
inductive Lim where
  | short (v : BitVec 12)
  | long (v : BitVec 28)
  deriving DecidableEq, Repr

/-- The displacement of a byte access (R142): S//dis1 (e = 0) or S//dis1//dis2 (e = 1). -/
inductive DisB where
  | short (v : BitVec 13)
  | long (v : BitVec 29)
  deriving DecidableEq, Repr

/-- The displacement of a half-word access: as DisB without bit 0, which is the sub-code (R148, 40 R171). -/
inductive DisH where
  | short (v : BitVec 12)
  | long (v : BitVec 28)
  deriving DecidableEq, Repr

/-- The displacement of a word, double-word, I/O or stack access: as DisB without bits 1..0, which are the sub-code (R148, 40 R171). -/
inductive DisW where
  | short (v : BitVec 11)
  | long (v : BitVec 27)
  deriving DecidableEq, Repr

/-- The operand rel of format PCrel in half-words (R139): S//low-rel, or S//high-rel//low-rel. -/
inductive Rel where
  | short (v : BitVec 7)
  | long (v : BitVec 23)
  deriving DecidableEq, Repr

/-- The instructions: one constructor for each row of spec/opcode_table.json. `ld`, `ls` are local register codes (at FRAME plain
numbers), `n` a shift count, `k` the FETCH operand minus one, `trapno` the trap number. -/
inductive Instr where
  | divu (rd rs : Reg)
  | divs (rd rs : Reg)
  | cmp (rd rs : Reg)
  | mov (rd rs : Reg)
  | add (rd rs : Reg)
  | adds (rd rs : Reg)
  | cmpb (rd rs : Reg)
  | andn (rd rs : Reg)
  | or (rd rs : Reg)
  | xor (rd rs : Reg)
  | subc (rd rs : Reg)
  | not (rd rs : Reg)
  | sub (rd rs : Reg)
  | subs (rd rs : Reg)
  | addc (rd rs : Reg)
  | and (rd rs : Reg)
  | neg (rd rs : Reg)
  | negs (rd rs : Reg)
  | mulu (rd rs : Reg)
  | muls (rd rs : Reg)
  | mul (rd rs : Reg)
  | chk (rd rs : Reg)
  | chkz (rd : Reg)
  | nop
  | movd (rd rs : Reg)
  | ret (rs : Reg)
  | xm1 (rd rs : Reg) (lim : Lim)
  | xm2 (rd rs : Reg) (lim : Lim)
  | xm4 (rd rs : Reg) (lim : Lim)
  | xm8 (rd rs : Reg) (lim : Lim)
  | xx1 (rd rs : Reg) (lim : Lim)
  | xx2 (rd rs : Reg) (lim : Lim)
  | xx4 (rd rs : Reg) (lim : Lim)
  | xx8 (rd rs : Reg) (lim : Lim)
  | mask (rd rs : Reg) (const : Const)
  | sum (rd rs : Reg) (const : Const)
  | sums (rd rs : Reg) (const : Const)
  | cmpi (rd : Reg) (imm : Imm)
  | movi (rd : Reg) (imm : Imm)
  | addi (rd : Reg) (imm : Imm)
  | addsi (rd : Reg) (imm : Imm)
  | cmpbi (rd : Reg) (imm : Imm)
  | andni (rd : Reg) (imm : Imm)
  | ori (rd : Reg) (imm : Imm)
  | xori (rd : Reg) (imm : Imm)
  | addiCz (rd : Reg)
  | addsiCz (rd : Reg)
  | cmpbiAnybz (rd : Reg)
  | shrdi (ld : BitVec 4) (n : BitVec 5)
  | shrd (ld ls : BitVec 4)
  | shr (ld ls : BitVec 4)
  | sardi (ld : BitVec 4) (n : BitVec 5)
  | sard (ld ls : BitVec 4)
  | sar (ld ls : BitVec 4)
  | shldi (ld : BitVec 4) (n : BitVec 5)
  | shld (ld ls : BitVec 4)
  | shl (ld ls : BitVec 4)
  | testlz (ld ls : BitVec 4)
  | rol (ld ls : BitVec 4)
  | shri (rd : Reg) (n : BitVec 5)
  | sari (rd : Reg) (n : BitVec 5)
  | shli (rd : Reg) (n : BitVec 5)
  | ldbsD (rd rs : Reg) (dis : DisB)
  | ldbsA (rs : Reg) (dis : DisB)
  | ldbuD (rd rs : Reg) (dis : DisB)
  | ldbuA (rs : Reg) (dis : DisB)
  | ldhuD (rd rs : Reg) (dis : DisH)
  | ldhuA (rs : Reg) (dis : DisH)
  | ldhsD (rd rs : Reg) (dis : DisH)
  | ldhsA (rs : Reg) (dis : DisH)
  | ldwD (rd rs : Reg) (dis : DisW)
  | ldwA (rs : Reg) (dis : DisW)
  | lddD (rd rs : Reg) (dis : DisW)
  | lddA (rs : Reg) (dis : DisW)
  | ldwIod (rd rs : Reg) (dis : DisW)
  | ldwIoa (rs : Reg) (dis : DisW)
  | lddIod (rd rs : Reg) (dis : DisW)
  | lddIoa (rs : Reg) (dis : DisW)
  | ldbsN (rd rs : Reg) (dis : DisB)
  | ldbuN (rd rs : Reg) (dis : DisB)
  | ldhuN (rd rs : Reg) (dis : DisH)
  | ldhsN (rd rs : Reg) (dis : DisH)
  | ldwN (rd rs : Reg) (dis : DisW)
  | lddN (rd rs : Reg) (dis : DisW)
  | ldwS (rd rs : Reg) (dis : DisW)
  | stbsD (rd rs : Reg) (dis : DisB)
  | stbsA (rs : Reg) (dis : DisB)
  | stbuD (rd rs : Reg) (dis : DisB)
  | stbuA (rs : Reg) (dis : DisB)
  | sthuD (rd rs : Reg) (dis : DisH)
  | sthuA (rs : Reg) (dis : DisH)
  | sthsD (rd rs : Reg) (dis : DisH)
  | sthsA (rs : Reg) (dis : DisH)
  | stwD (rd rs : Reg) (dis : DisW)
  | stwA (rs : Reg) (dis : DisW)
  | stdD (rd rs : Reg) (dis : DisW)
  | stdA (rs : Reg) (dis : DisW)
  | stwIod (rd rs : Reg) (dis : DisW)
  | stwIoa (rs : Reg) (dis : DisW)
  | stdIod (rd rs : Reg) (dis : DisW)
  | stdIoa (rs : Reg) (dis : DisW)
  | stbsN (rd rs : Reg) (dis : DisB)
  | stbuN (rd rs : Reg) (dis : DisB)
  | sthuN (rd rs : Reg) (dis : DisH)
  | sthsN (rd rs : Reg) (dis : DisH)
  | stwN (rd rs : Reg) (dis : DisW)
  | stdN (rd rs : Reg) (dis : DisW)
  | stwS (rd rs : Reg) (dis : DisW)
  | ldwR (ld : BitVec 4) (rs : Reg)
  | lddR (ld : BitVec 4) (rs : Reg)
  | ldwP (ld : BitVec 4) (rs : Reg)
  | lddP (ld : BitVec 4) (rs : Reg)
  | stwR (ld : BitVec 4) (rs : Reg)
  | stdR (ld : BitVec 4) (rs : Reg)
  | stwP (ld : BitVec 4) (rs : Reg)
  | stdP (ld : BitVec 4) (rs : Reg)
  | setadr (rd : Reg)
  | fetch (k : BitVec 4)
  | set1 (rd : Reg)
  | set0 (rd : Reg)
  | setle (rd : Reg)
  | setgt (rd : Reg)
  | setlt (rd : Reg)
  | setge (rd : Reg)
  | setse (rd : Reg)
  | setht (rd : Reg)
  | setst (rd : Reg)
  | sethe (rd : Reg)
  | sete (rd : Reg)
  | setne (rd : Reg)
  | setv (rd : Reg)
  | setnv (rd : Reg)
  | set1M (rd : Reg)
  | setleM (rd : Reg)
  | setgtM (rd : Reg)
  | setltM (rd : Reg)
  | setgeM (rd : Reg)
  | setseM (rd : Reg)
  | sethtM (rd : Reg)
  | setstM (rd : Reg)
  | setheM (rd : Reg)
  | seteM (rd : Reg)
  | setneM (rd : Reg)
  | setvM (rd : Reg)
  | setnvM (rd : Reg)
  | fadd (ld ls : BitVec 4)
  | faddd (ld ls : BitVec 4)
  | fsub (ld ls : BitVec 4)
  | fsubd (ld ls : BitVec 4)
  | fmul (ld ls : BitVec 4)
  | fmuld (ld ls : BitVec 4)
  | fdiv (ld ls : BitVec 4)
  | fdivd (ld ls : BitVec 4)
  | fcmp (ld ls : BitVec 4)
  | fcmpd (ld ls : BitVec 4)
  | fcmpu (ld ls : BitVec 4)
  | fcmpud (ld ls : BitVec 4)
  | fcvt (ld ls : BitVec 4)
  | fcvtd (ld ls : BitVec 4)
  | emul (ld ls : BitVec 4)
  | emulu (ld ls : BitVec 4)
  | emuls (ld ls : BitVec 4)
  | emac (ld ls : BitVec 4)
  | emacd (ld ls : BitVec 4)
  | emsub (ld ls : BitVec 4)
  | emsubd (ld ls : BitVec 4)
  | ehmac (ld ls : BitVec 4)
  | ehmacd (ld ls : BitVec 4)
  | ehcmuld (ld ls : BitVec 4)
  | ehcmacd (ld ls : BitVec 4)
  | ehcsumd (ld ls : BitVec 4)
  | ehcfftd (ld ls : BitVec 4)
  | ehcfftsd (ld ls : BitVec 4)
  | softDo (ld ls : BitVec 4)
  | dbv (rel : Rel)
  | dbnv (rel : Rel)
  | dbe (rel : Rel)
  | dbne (rel : Rel)
  | dbc (rel : Rel)
  | dbnc (rel : Rel)
  | dbse (rel : Rel)
  | dbht (rel : Rel)
  | dbn (rel : Rel)
  | dbnn (rel : Rel)
  | dble (rel : Rel)
  | dbgt (rel : Rel)
  | dbr (rel : Rel)
  | frame (ld ls : BitVec 4)
  | call (ld : BitVec 4) (rs : Reg) (const : Const)
  | bv (rel : Rel)
  | bnv (rel : Rel)
  | be (rel : Rel)
  | bne (rel : Rel)
  | bc (rel : Rel)
  | bnc (rel : Rel)
  | bse (rel : Rel)
  | bht (rel : Rel)
  | bn (rel : Rel)
  | bnn (rel : Rel)
  | ble (rel : Rel)
  | bgt (rel : Rel)
  | br (rel : Rel)
  | traple (trapno : BitVec 6)
  | trapgt (trapno : BitVec 6)
  | traplt (trapno : BitVec 6)
  | trapge (trapno : BitVec 6)
  | trapse (trapno : BitVec 6)
  | trapht (trapno : BitVec 6)
  | trapst (trapno : BitVec 6)
  | traphe (trapno : BitVec 6)
  | trape (trapno : BitVec 6)
  | trapne (trapno : BitVec 6)
  | trapv (trapno : BitVec 6)
  | trap (trapno : BitVec 6)
  deriving DecidableEq, Repr

/-- The operand names a global register code. -/
def Reg.isGlobal : Reg → Bool
  | .l _ => false
  | .g _ => true

/-- The operand is the PC code: global code 0 (R148, with H = 0). -/
def Reg.isPc (r : Reg) : Bool := r == .g 0

/-- The operand is the SR code: global code 1 (R148, with H = 0). -/
def Reg.isSr (r : Reg) : Bool := r == .g 1

end Sys2Proof
end

