-- ==== Sys2Proof/WellFormed.lean ====
section
/-! DEFINITION. WellFormed.lean: the operands an instruction can be written with. Everything else of Syntax is excluded by its types; what
remains are the forms that another constructor spells (30_encoding R148) and the reserved ones (R151). -/

namespace Sys2Proof

/-- n = 17, 18, 19 have further half-words and are spelled `word`, `low`, `high` (R145). -/
def Imm.wellFormed : Imm → Bool
  | .short n => !(n == 17#5 || n == 18#5 || n == 19#5)
  | _ => true

/-- n = 0 is the CZ or ANYBZ form (R145, R148). -/
def Imm.notZeroForm : Imm → Bool
  | .short n => n != 0#5
  | _ => true

/-- The operand is neither the PC code nor the SR code. -/
def Reg.notPcSr (r : Reg) : Bool := !r.isPc && !r.isSr

/-- CHK: Rs = SR is CHKZ, L0, L0 is NOP (R148). -/
def wellFormedChk (rd rs : Reg) : Bool := !rs.isSr && !(rd == .l 0 && rs == .l 0)

/-- XMx, XXx (R151). -/
def wellFormedIndex (rd rs : Reg) : Bool := rd.notPcSr && !rs.isSr

/-- The instruction is a form of its own mnemonic. -/
def Instr.wellFormed : Instr → Bool
  | .divu _ _ => true
  | .divs _ _ => true
  | .cmp _ _ => true
  | .mov _ _ => true
  | .add _ _ => true
  | .adds _ _ => true
  | .cmpb _ _ => true
  | .andn _ _ => true
  | .or _ _ => true
  | .xor _ _ => true
  | .subc _ _ => true
  | .not _ _ => true
  | .sub _ _ => true
  | .subs _ _ => true
  | .addc _ _ => true
  | .and _ _ => true
  | .neg _ _ => true
  | .negs _ _ => true
  | .mulu _ _ => true
  | .muls _ _ => true
  | .mul _ _ => true
  | .chk rd rs => wellFormedChk rd rs
  | .chkz _ => true
  | .nop => true
  | .movd rd _ => !rd.isPc
  | .ret rs => rs.notPcSr
  | .xm1 rd rs _ => wellFormedIndex rd rs
  | .xm2 rd rs _ => wellFormedIndex rd rs
  | .xm4 rd rs _ => wellFormedIndex rd rs
  | .xm8 rd rs _ => wellFormedIndex rd rs
  | .xx1 rd rs _ => wellFormedIndex rd rs
  | .xx2 rd rs _ => wellFormedIndex rd rs
  | .xx4 rd rs _ => wellFormedIndex rd rs
  | .xx8 rd rs _ => wellFormedIndex rd rs
  | .mask _ _ _ => true
  | .sum _ _ _ => true
  | .sums _ _ _ => true
  | .cmpi _ imm => imm.wellFormed
  | .movi _ imm => imm.wellFormed
  | .addi _ imm => imm.wellFormed && imm.notZeroForm
  | .addsi _ imm => imm.wellFormed && imm.notZeroForm
  | .cmpbi _ imm => imm.wellFormed && imm.notZeroForm
  | .andni _ imm => imm.wellFormed
  | .ori _ imm => imm.wellFormed
  | .xori _ imm => imm.wellFormed
  | .addiCz _ => true
  | .addsiCz _ => true
  | .cmpbiAnybz _ => true
  | .shrdi _ _ => true
  | .shrd _ _ => true
  | .shr _ _ => true
  | .sardi _ _ => true
  | .sard _ _ => true
  | .sar _ _ => true
  | .shldi _ _ => true
  | .shld _ _ => true
  | .shl _ _ => true
  | .testlz _ _ => true
  | .rol _ _ => true
  | .shri _ _ => true
  | .sari _ _ => true
  | .shli _ _ => true
  | .ldbsD rd _ _ => !rd.isSr
  | .ldbsA _ _ => true
  | .ldbuD rd _ _ => !rd.isSr
  | .ldbuA _ _ => true
  | .ldhuD rd _ _ => !rd.isSr
  | .ldhuA _ _ => true
  | .ldhsD rd _ _ => !rd.isSr
  | .ldhsA _ _ => true
  | .ldwD rd _ _ => !rd.isSr
  | .ldwA _ _ => true
  | .lddD rd _ _ => !rd.isSr
  | .lddA _ _ => true
  | .ldwIod rd _ _ => !rd.isSr
  | .ldwIoa _ _ => true
  | .lddIod rd _ _ => !rd.isSr
  | .lddIoa _ _ => true
  | .ldbsN rd _ _ => rd.notPcSr
  | .ldbuN rd _ _ => rd.notPcSr
  | .ldhuN rd _ _ => rd.notPcSr
  | .ldhsN rd _ _ => rd.notPcSr
  | .ldwN rd _ _ => rd.notPcSr
  | .lddN rd _ _ => rd.notPcSr
  | .ldwS rd _ _ => rd.notPcSr
  | .stbsD rd _ _ => !rd.isSr
  | .stbsA _ _ => true
  | .stbuD rd _ _ => !rd.isSr
  | .stbuA _ _ => true
  | .sthuD rd _ _ => !rd.isSr
  | .sthuA _ _ => true
  | .sthsD rd _ _ => !rd.isSr
  | .sthsA _ _ => true
  | .stwD rd _ _ => !rd.isSr
  | .stwA _ _ => true
  | .stdD rd _ _ => !rd.isSr
  | .stdA _ _ => true
  | .stwIod rd _ _ => !rd.isSr
  | .stwIoa _ _ => true
  | .stdIod rd _ _ => !rd.isSr
  | .stdIoa _ _ => true
  | .stbsN rd _ _ => rd.notPcSr
  | .stbuN rd _ _ => rd.notPcSr
  | .sthuN rd _ _ => rd.notPcSr
  | .sthsN rd _ _ => rd.notPcSr
  | .stwN rd _ _ => rd.notPcSr
  | .stdN rd _ _ => rd.notPcSr
  | .stwS rd _ _ => rd.notPcSr
  | .ldwR _ _ => true
  | .lddR _ _ => true
  | .ldwP _ _ => true
  | .lddP _ _ => true
  | .stwR _ _ => true
  | .stdR _ _ => true
  | .stwP _ _ => true
  | .stdP _ _ => true
  | .setadr rd => rd.notPcSr
  | .fetch _ => true
  | .set1 rd => rd.notPcSr
  | .set0 rd => rd.notPcSr
  | .setle rd => rd.notPcSr
  | .setgt rd => rd.notPcSr
  | .setlt rd => rd.notPcSr
  | .setge rd => rd.notPcSr
  | .setse rd => rd.notPcSr
  | .setht rd => rd.notPcSr
  | .setst rd => rd.notPcSr
  | .sethe rd => rd.notPcSr
  | .sete rd => rd.notPcSr
  | .setne rd => rd.notPcSr
  | .setv rd => rd.notPcSr
  | .setnv rd => rd.notPcSr
  | .set1M rd => rd.notPcSr
  | .setleM rd => rd.notPcSr
  | .setgtM rd => rd.notPcSr
  | .setltM rd => rd.notPcSr
  | .setgeM rd => rd.notPcSr
  | .setseM rd => rd.notPcSr
  | .sethtM rd => rd.notPcSr
  | .setstM rd => rd.notPcSr
  | .setheM rd => rd.notPcSr
  | .seteM rd => rd.notPcSr
  | .setneM rd => rd.notPcSr
  | .setvM rd => rd.notPcSr
  | .setnvM rd => rd.notPcSr
  | .fadd _ _ => true
  | .faddd _ _ => true
  | .fsub _ _ => true
  | .fsubd _ _ => true
  | .fmul _ _ => true
  | .fmuld _ _ => true
  | .fdiv _ _ => true
  | .fdivd _ _ => true
  | .fcmp _ _ => true
  | .fcmpd _ _ => true
  | .fcmpu _ _ => true
  | .fcmpud _ _ => true
  | .fcvt _ _ => true
  | .fcvtd _ _ => true
  | .emul _ _ => true
  | .emulu _ _ => true
  | .emuls _ _ => true
  | .emac _ _ => true
  | .emacd _ _ => true
  | .emsub _ _ => true
  | .emsubd _ _ => true
  | .ehmac _ _ => true
  | .ehmacd _ _ => true
  | .ehcmuld _ _ => true
  | .ehcmacd _ _ => true
  | .ehcsumd _ _ => true
  | .ehcfftd _ _ => true
  | .ehcfftsd _ _ => true
  | .softDo _ _ => true
  | .dbv _ => true
  | .dbnv _ => true
  | .dbe _ => true
  | .dbne _ => true
  | .dbc _ => true
  | .dbnc _ => true
  | .dbse _ => true
  | .dbht _ => true
  | .dbn _ => true
  | .dbnn _ => true
  | .dble _ => true
  | .dbgt _ => true
  | .dbr _ => true
  | .frame _ _ => true
  | .call _ _ _ => true
  | .bv _ => true
  | .bnv _ => true
  | .be _ => true
  | .bne _ => true
  | .bc _ => true
  | .bnc _ => true
  | .bse _ => true
  | .bht _ => true
  | .bn _ => true
  | .bnn _ => true
  | .ble _ => true
  | .bgt _ => true
  | .br _ => true
  | .traple _ => true
  | .trapgt _ => true
  | .traplt _ => true
  | .trapge _ => true
  | .trapse _ => true
  | .trapht _ => true
  | .trapst _ => true
  | .traphe _ => true
  | .trape _ => true
  | .trapne _ => true
  | .trapv _ => true
  | .trap _ => true

end Sys2Proof
end

