-- ==== Sys2Proof/Decode.lean ====
section
/-! DEFINITION. Decode.lean: from the half-words of an instruction to the instruction and back (spec/30_encoding.md). Total; a reserved
or undefined encoding (R151) is rejected by name (D6). The opcode map is that of R146 to R149 (R147: partly recovered, log 40). Decoding does not
look at the H flag (log 10). -/

namespace Sys2Proof

/-- Why the decoder rejects a half-word sequence: the reserved and undefined encodings that 30_encoding R151 lists. -/
inductive DecodeError where
  /-- OP-codes 8C, 8D, AC..AF. -/
  | opcode
  /-- XMx, XXx with the SR as source, or the SR or the PC as destination. -/
  | indexOperand
  /-- RET with the PC or the SR as source. -/
  | returnSource
  /-- D-code 3 with dis(1..0) = 10 in the next-address groups. -/
  | dCode
  /-- Next-address or stack address mode with Rd the PC or the SR (93 U32). -/
  | nextAddressPcSr
  /-- The SETxx group with Rd denoting the PC. -/
  | setPc
  /-- SETxx with n = 1, 16, 17 or 19. -/
  | setCode
  /-- FETCH with an odd n. -/
  | fetchOdd
  /-- EXTEND with an unknown second half-word. -/
  | extendCode
  deriving DecidableEq, Repr

/-- The decoder's answer. -/
inductive Decoded where
  | ok (i : Instr)
  | reserved (why : DecodeError)
  deriving DecidableEq, Repr

/-! ## Fields of the first half-word (R131 to R138) -/

/-- A register operand: the bank bit (1 = local) and the register code. -/
def Reg.decode (bank : BitVec 1) (code : BitVec 4) : Reg := if bank = 1#1 then .l code else .g code

/-- OP-code bits 15..10 of hw1. -/
def opField (hw1 : Half) : BitVec 6 := hw1.extractLsb' 10 6

/-- Bits 9..8 of hw1: the low bits of a 7 or 8 bit OP-code. -/
def subField (hw1 : Half) : BitVec 2 := hw1.extractLsb' 8 2

/-- The destination code, bits 7..4 of hw1. -/
def dstCode (hw1 : Half) : BitVec 4 := hw1.extractLsb' 4 4

/-- The source code, bits 3..0 of hw1. -/
def srcCode (hw1 : Half) : BitVec 4 := hw1.extractLsb' 0 4

/-- Rd of a format with a d bit (R131). -/
def dstReg (hw1 : Half) : Reg := Reg.decode (hw1.extractLsb' 9 1) (dstCode hw1)

/-- Rs of a format with an s bit (R131). -/
def srcReg (hw1 : Half) : Reg := Reg.decode (hw1.extractLsb' 8 1) (srcCode hw1)

/-- n of formats Ln, Rn and Rimm: bit 8//bits 3..0 (R136, R137, R143). -/
def countField (hw1 : Half) : BitVec 5 := hw1.extractLsb' 8 1 ++ hw1.extractLsb' 0 4

/-! ## Fields of the further half-words (R139 to R145) -/

/-- Bit 15 of hw2: a third half-word follows. -/
def longBit (hw2 : Half) : Bool := hw2.getLsbD 15

/-- const (R140). -/
def Const.decode (hw2 hw3 : Half) : Const :=
  if longBit hw2 then .long (hw2.extractLsb' 0 15 ++ hw3) else .short (hw2.extractLsb' 0 15)

/-- lim (R144). -/
def Lim.decode (hw2 hw3 : Half) : Lim :=
  if longBit hw2 then .long (hw2.extractLsb' 0 12 ++ hw3) else .short (hw2.extractLsb' 0 12)

/-- dis of a byte access (R142). -/
def DisB.decode (hw2 hw3 : Half) : DisB :=
  if longBit hw2 then .long (hw2.extractLsb' 14 1 ++ hw2.extractLsb' 0 12 ++ hw3)
  else .short (hw2.extractLsb' 14 1 ++ hw2.extractLsb' 0 12)

/-- dis of a half-word access, without the sub-code bit 0 (R148). -/
def DisH.decode (hw2 hw3 : Half) : DisH :=
  if longBit hw2 then .long (hw2.extractLsb' 14 1 ++ hw2.extractLsb' 0 12 ++ hw3.extractLsb' 1 15)
  else .short (hw2.extractLsb' 14 1 ++ hw2.extractLsb' 1 11)

/-- dis of a word access, without the sub-code bits 1..0 (R148). -/
def DisW.decode (hw2 hw3 : Half) : DisW :=
  if longBit hw2 then .long (hw2.extractLsb' 14 1 ++ hw2.extractLsb' 0 12 ++ hw3.extractLsb' 2 14)
  else .short (hw2.extractLsb' 14 1 ++ hw2.extractLsb' 2 10)

/-- The last half-word of a displacement: hw2 or hw3 (R142). -/
def lastHalf (hw2 hw3 : Half) : Half := if longBit hw2 then hw3 else hw2

/-- dis(0), the sub-code of D-code 2 (R148). -/
def lowBit (hw2 hw3 : Half) : BitVec 1 := (lastHalf hw2 hw3).extractLsb' 0 1

/-- dis(1..0), the sub-code of D-code 3 (R148). -/
def lowBits (hw2 hw3 : Half) : BitVec 2 := (lastHalf hw2 hw3).extractLsb' 0 2

/-- The D-code, bits 13..12 of hw2 (R142). -/
def dCode (hw2 : Half) : BitVec 2 := hw2.extractLsb' 12 2

/-- The X-code, bits 14..12 of hw2 (R144). -/
def xCode (hw2 : Half) : BitVec 3 := hw2.extractLsb' 12 3

/-- rel in half-words (R139): the sign is bit 0 of the last half-word. -/
def Rel.decode (hw1 hw2 : Half) : Rel :=
  if hw1.getLsbD 7 then .long (hw2.extractLsb' 0 1 ++ hw1.extractLsb' 0 7 ++ hw2.extractLsb' 1 15)
  else .short (hw1.extractLsb' 0 1 ++ hw1.extractLsb' 1 6)

/-- imm (R143, R145). -/
def Imm.decode (n : BitVec 5) (hw2 hw3 : Half) : Imm :=
  if n = 17#5 then .word (hw2 ++ hw3) else if n = 18#5 then .low hw2 else if n = 19#5 then .high hw2 else .short n

/-! ## The groups that share an OP-code (R148) -/

/-- One of four by the low OP-code bits. -/
def pick4 (sub : BitVec 2) (a b c d : Decoded) : Decoded :=
  match sub with
  | 0#2 => a
  | 1#2 => b
  | 2#2 => c
  | _ => d

/-- 00..03: CHKZ where Rs denotes the SR, NOP is CHK L0, L0, otherwise CHK (R148, R153). -/
def decodeChk (rd rs : Reg) : Decoded :=
  if rs.isSr then .ok (.chkz rd) else if rd = .l 0#4 ∧ rs = .l 0#4 then .ok .nop else .ok (.chk rd rs)

/-- 04..07: RET where Rd denotes the PC, otherwise MOVD (R148, R151). -/
def decodeMovd (rd rs : Reg) : Decoded :=
  if rd.isPc then (if rs.isPc || rs.isSr then .reserved .returnSource else .ok (.ret rs)) else .ok (.movd rd rs)

/-- 10..13: XM1 to XX8 by the X-code (R148, R151). -/
def decodeIndex (rd rs : Reg) (hw2 hw3 : Half) : Decoded :=
  let lim := Lim.decode hw2 hw3
  if rs.isSr || rd.isSr || rd.isPc then .reserved .indexOperand else
    match xCode hw2 with
    | 0#3 => .ok (.xm1 rd rs lim)
    | 1#3 => .ok (.xm2 rd rs lim)
    | 2#3 => .ok (.xm4 rd rs lim)
    | 3#3 => .ok (.xm8 rd rs lim)
    | 4#3 => .ok (.xx1 rd rs lim)
    | 5#3 => .ok (.xx2 rd rs lim)
    | 6#3 => .ok (.xx4 rd rs lim)
    | 7#3 => .ok (.xx8 rd rs lim)

/-- The 90..93 group (30_encoding R148, 40 R174): D-code and sub-code; Rd denoting the SR selects the absolute modes. -/
def decodeLoadDis (rd rs : Reg) (hw2 hw3 : Half) : Decoded :=
  match dCode hw2 with
  | 0#2 => if rd.isSr then .ok (.ldbsA rs (DisB.decode hw2 hw3)) else .ok (.ldbsD rd rs (DisB.decode hw2 hw3))
  | 1#2 => if rd.isSr then .ok (.ldbuA rs (DisB.decode hw2 hw3)) else .ok (.ldbuD rd rs (DisB.decode hw2 hw3))
  | 2#2 => if lowBit hw2 hw3 = 0#1 then if rd.isSr then .ok (.ldhuA rs (DisH.decode hw2 hw3)) else .ok (.ldhuD rd rs (DisH.decode hw2 hw3))
    else if rd.isSr then .ok (.ldhsA rs (DisH.decode hw2 hw3)) else .ok (.ldhsD rd rs (DisH.decode hw2 hw3))
  | _ => match lowBits hw2 hw3 with
    | 0#2 => if rd.isSr then .ok (.ldwA rs (DisW.decode hw2 hw3)) else .ok (.ldwD rd rs (DisW.decode hw2 hw3))
    | 1#2 => if rd.isSr then .ok (.lddA rs (DisW.decode hw2 hw3)) else .ok (.lddD rd rs (DisW.decode hw2 hw3))
    | 2#2 => if rd.isSr then .ok (.ldwIoa rs (DisW.decode hw2 hw3)) else .ok (.ldwIod rd rs (DisW.decode hw2 hw3))
    | _ => if rd.isSr then .ok (.lddIoa rs (DisW.decode hw2 hw3)) else .ok (.lddIod rd rs (DisW.decode hw2 hw3))

/-- The 94..97 group (30_encoding R148, 40 R174, R218): Rd must not denote the PC or the SR (93 U32); D-code 3 with
10 is reserved. -/
def decodeLoadNext (rd rs : Reg) (hw2 hw3 : Half) : Decoded :=
  if rd.isPc || rd.isSr then .reserved .nextAddressPcSr else
  match dCode hw2 with
  | 0#2 => .ok (.ldbsN rd rs (DisB.decode hw2 hw3))
  | 1#2 => .ok (.ldbuN rd rs (DisB.decode hw2 hw3))
  | 2#2 => if lowBit hw2 hw3 = 0#1 then .ok (.ldhuN rd rs (DisH.decode hw2 hw3)) else .ok (.ldhsN rd rs (DisH.decode hw2 hw3))
  | _ => match lowBits hw2 hw3 with
    | 0#2 => .ok (.ldwN rd rs (DisW.decode hw2 hw3))
    | 1#2 => .ok (.lddN rd rs (DisW.decode hw2 hw3))
    | 2#2 => .reserved .dCode
    | _ => .ok (.ldwS rd rs (DisW.decode hw2 hw3))

/-- The 98..9B group (30_encoding R148, 40 R174): D-code and sub-code; Rd denoting the SR selects the absolute modes. -/
def decodeStoreDis (rd rs : Reg) (hw2 hw3 : Half) : Decoded :=
  match dCode hw2 with
  | 0#2 => if rd.isSr then .ok (.stbsA rs (DisB.decode hw2 hw3)) else .ok (.stbsD rd rs (DisB.decode hw2 hw3))
  | 1#2 => if rd.isSr then .ok (.stbuA rs (DisB.decode hw2 hw3)) else .ok (.stbuD rd rs (DisB.decode hw2 hw3))
  | 2#2 => if lowBit hw2 hw3 = 0#1 then if rd.isSr then .ok (.sthuA rs (DisH.decode hw2 hw3)) else .ok (.sthuD rd rs (DisH.decode hw2 hw3))
    else if rd.isSr then .ok (.sthsA rs (DisH.decode hw2 hw3)) else .ok (.sthsD rd rs (DisH.decode hw2 hw3))
  | _ => match lowBits hw2 hw3 with
    | 0#2 => if rd.isSr then .ok (.stwA rs (DisW.decode hw2 hw3)) else .ok (.stwD rd rs (DisW.decode hw2 hw3))
    | 1#2 => if rd.isSr then .ok (.stdA rs (DisW.decode hw2 hw3)) else .ok (.stdD rd rs (DisW.decode hw2 hw3))
    | 2#2 => if rd.isSr then .ok (.stwIoa rs (DisW.decode hw2 hw3)) else .ok (.stwIod rd rs (DisW.decode hw2 hw3))
    | _ => if rd.isSr then .ok (.stdIoa rs (DisW.decode hw2 hw3)) else .ok (.stdIod rd rs (DisW.decode hw2 hw3))

/-- The 9C..9F group (30_encoding R148, 40 R174, R218): Rd must not denote the PC or the SR (93 U32); D-code 3 with
10 is reserved. -/
def decodeStoreNext (rd rs : Reg) (hw2 hw3 : Half) : Decoded :=
  if rd.isPc || rd.isSr then .reserved .nextAddressPcSr else
  match dCode hw2 with
  | 0#2 => .ok (.stbsN rd rs (DisB.decode hw2 hw3))
  | 1#2 => .ok (.stbuN rd rs (DisB.decode hw2 hw3))
  | 2#2 => if lowBit hw2 hw3 = 0#1 then .ok (.sthuN rd rs (DisH.decode hw2 hw3)) else .ok (.sthsN rd rs (DisH.decode hw2 hw3))
  | _ => match lowBits hw2 hw3 with
    | 0#2 => .ok (.stwN rd rs (DisW.decode hw2 hw3))
    | 1#2 => .ok (.stdN rd rs (DisW.decode hw2 hw3))
    | 2#2 => .reserved .dCode
    | _ => .ok (.stwS rd rs (DisW.decode hw2 hw3))

/-- B8..BB: FETCH where Rd denotes the SR, SETADR for n = 0, otherwise SETxx by n (R148, R151, R154). -/
def decodeSet (rd : Reg) (n : BitVec 5) : Decoded :=
  if rd.isSr then (if n.getLsbD 0 then .reserved .fetchOdd else .ok (.fetch (n.extractLsb' 1 4)))
  else if rd.isPc then .reserved .setPc else
    match n with
    | 0#5 => .ok (.setadr rd)
    | 2#5 => .ok (.set1 rd)
    | 3#5 => .ok (.set0 rd)
    | 4#5 => .ok (.setle rd)
    | 5#5 => .ok (.setgt rd)
    | 6#5 => .ok (.setlt rd)
    | 7#5 => .ok (.setge rd)
    | 8#5 => .ok (.setse rd)
    | 9#5 => .ok (.setht rd)
    | 10#5 => .ok (.setst rd)
    | 11#5 => .ok (.sethe rd)
    | 12#5 => .ok (.sete rd)
    | 13#5 => .ok (.setne rd)
    | 14#5 => .ok (.setv rd)
    | 15#5 => .ok (.setnv rd)
    | 18#5 => .ok (.set1M rd)
    | 20#5 => .ok (.setleM rd)
    | 21#5 => .ok (.setgtM rd)
    | 22#5 => .ok (.setltM rd)
    | 23#5 => .ok (.setgeM rd)
    | 24#5 => .ok (.setseM rd)
    | 25#5 => .ok (.sethtM rd)
    | 26#5 => .ok (.setstM rd)
    | 27#5 => .ok (.setheM rd)
    | 28#5 => .ok (.seteM rd)
    | 29#5 => .ok (.setneM rd)
    | 30#5 => .ok (.setvM rd)
    | 31#5 => .ok (.setnvM rd)
    | _ => .reserved .setCode

/-- CE: the Extended DSP instructions by hw2 (R149, R151). -/
def decodeExtend (ld ls : BitVec 4) (hw2 : Half) : Decoded :=
  match hw2 with
  | 0x0102#16 => .ok (.emul ld ls)
  | 0x0104#16 => .ok (.emulu ld ls)
  | 0x0106#16 => .ok (.emuls ld ls)
  | 0x010A#16 => .ok (.emac ld ls)
  | 0x010E#16 => .ok (.emacd ld ls)
  | 0x011A#16 => .ok (.emsub ld ls)
  | 0x011E#16 => .ok (.emsubd ld ls)
  | 0x002A#16 => .ok (.ehmac ld ls)
  | 0x002E#16 => .ok (.ehmacd ld ls)
  | 0x0046#16 => .ok (.ehcmuld ld ls)
  | 0x004E#16 => .ok (.ehcmacd ld ls)
  | 0x0086#16 => .ok (.ehcsumd ld ls)
  | 0x0096#16 => .ok (.ehcfftd ld ls)
  | 0x0296#16 => .ok (.ehcfftsd ld ls)
  | _ => .reserved .extendCode

/-- FD..FF: the traps by the code hw1(9..8)//hw1(1..0) (R148); codes 0 to 3 are BR's and do not come here (R147). -/
def decodeTrap (hw1 : Half) : Instr :=
  let t : BitVec 6 := hw1.extractLsb' 2 6
  match subField hw1 ++ hw1.extractLsb' 0 2 with
  | 4#4 => .traple t
  | 5#4 => .trapgt t
  | 6#4 => .traplt t
  | 7#4 => .trapge t
  | 8#4 => .trapse t
  | 9#4 => .trapht t
  | 10#4 => .trapst t
  | 11#4 => .traphe t
  | 12#4 => .trape t
  | 13#4 => .trapne t
  | 14#4 => .trapv t
  | _ => .trap t

/-- The decoder (R146): the instruction whose half-words are hw1, hw2, hw3; the ones past its length are not looked at (R150). -/
def decode (hw1 hw2 hw3 : Half) : Decoded :=
  let rd := dstReg hw1
  let rs := srcReg hw1
  let cd := dstCode hw1
  let cs := srcCode hw1
  let n := countField hw1
  let sub := subField hw1
  let imm := Imm.decode n hw2 hw3
  let rel := Rel.decode hw1 hw2
  match opField hw1 with
  | 0x00#6 => decodeChk rd rs
  | 0x01#6 => decodeMovd rd rs
  | 0x02#6 => .ok (.divu rd rs)
  | 0x03#6 => .ok (.divs rd rs)
  | 0x04#6 => decodeIndex rd rs hw2 hw3
  | 0x05#6 => .ok (.mask rd rs (Const.decode hw2 hw3))
  | 0x06#6 => .ok (.sum rd rs (Const.decode hw2 hw3))
  | 0x07#6 => .ok (.sums rd rs (Const.decode hw2 hw3))
  | 0x08#6 => .ok (.cmp rd rs)
  | 0x09#6 => .ok (.mov rd rs)
  | 0x0A#6 => .ok (.add rd rs)
  | 0x0B#6 => .ok (.adds rd rs)
  | 0x0C#6 => .ok (.cmpb rd rs)
  | 0x0D#6 => .ok (.andn rd rs)
  | 0x0E#6 => .ok (.or rd rs)
  | 0x0F#6 => .ok (.xor rd rs)
  | 0x10#6 => .ok (.subc rd rs)
  | 0x11#6 => .ok (.not rd rs)
  | 0x12#6 => .ok (.sub rd rs)
  | 0x13#6 => .ok (.subs rd rs)
  | 0x14#6 => .ok (.addc rd rs)
  | 0x15#6 => .ok (.and rd rs)
  | 0x16#6 => .ok (.neg rd rs)
  | 0x17#6 => .ok (.negs rd rs)
  | 0x18#6 => .ok (.cmpi rd imm)
  | 0x19#6 => .ok (.movi rd imm)
  | 0x1A#6 => .ok (if n = 0#5 then .addiCz rd else .addi rd imm)
  | 0x1B#6 => .ok (if n = 0#5 then .addsiCz rd else .addsi rd imm)
  | 0x1C#6 => .ok (if n = 0#5 then .cmpbiAnybz rd else .cmpbi rd imm)
  | 0x1D#6 => .ok (.andni rd imm)
  | 0x1E#6 => .ok (.ori rd imm)
  | 0x1F#6 => .ok (.xori rd imm)
  | 0x20#6 => pick4 sub (.ok (.shrdi cd n)) (.ok (.shrdi cd n)) (.ok (.shrd cd cs)) (.ok (.shr cd cs))
  | 0x21#6 => pick4 sub (.ok (.sardi cd n)) (.ok (.sardi cd n)) (.ok (.sard cd cs)) (.ok (.sar cd cs))
  | 0x22#6 => pick4 sub (.ok (.shldi cd n)) (.ok (.shldi cd n)) (.ok (.shld cd cs)) (.ok (.shl cd cs))
  | 0x23#6 => pick4 sub (.reserved .opcode) (.reserved .opcode) (.ok (.testlz cd cs)) (.ok (.rol cd cs))
  | 0x24#6 => decodeLoadDis rd rs hw2 hw3
  | 0x25#6 => decodeLoadNext rd rs hw2 hw3
  | 0x26#6 => decodeStoreDis rd rs hw2 hw3
  | 0x27#6 => decodeStoreNext rd rs hw2 hw3
  | 0x28#6 => .ok (.shri rd n)
  | 0x29#6 => .ok (.sari rd n)
  | 0x2A#6 => .ok (.shli rd n)
  | 0x2B#6 => .reserved .opcode
  | 0x2C#6 => .ok (.mulu rd rs)
  | 0x2D#6 => .ok (.muls rd rs)
  | 0x2E#6 => decodeSet rd n
  | 0x2F#6 => .ok (.mul rd rs)
  | 0x30#6 => pick4 sub (.ok (.fadd cd cs)) (.ok (.faddd cd cs)) (.ok (.fsub cd cs)) (.ok (.fsubd cd cs))
  | 0x31#6 => pick4 sub (.ok (.fmul cd cs)) (.ok (.fmuld cd cs)) (.ok (.fdiv cd cs)) (.ok (.fdivd cd cs))
  | 0x32#6 => pick4 sub (.ok (.fcmp cd cs)) (.ok (.fcmpd cd cs)) (.ok (.fcmpu cd cs)) (.ok (.fcmpud cd cs))
  | 0x33#6 => pick4 sub (.ok (.fcvt cd cs)) (.ok (.fcvtd cd cs)) (decodeExtend cd cs hw2) (.ok (.softDo cd cs))
  | 0x34#6 => pick4 sub (.ok (.ldwR cd rs)) (.ok (.ldwR cd rs)) (.ok (.lddR cd rs)) (.ok (.lddR cd rs))
  | 0x35#6 => pick4 sub (.ok (.ldwP cd rs)) (.ok (.ldwP cd rs)) (.ok (.lddP cd rs)) (.ok (.lddP cd rs))
  | 0x36#6 => pick4 sub (.ok (.stwR cd rs)) (.ok (.stwR cd rs)) (.ok (.stdR cd rs)) (.ok (.stdR cd rs))
  | 0x37#6 => pick4 sub (.ok (.stwP cd rs)) (.ok (.stwP cd rs)) (.ok (.stdP cd rs)) (.ok (.stdP cd rs))
  | 0x38#6 => pick4 sub (.ok (.dbv rel)) (.ok (.dbnv rel)) (.ok (.dbe rel)) (.ok (.dbne rel))
  | 0x39#6 => pick4 sub (.ok (.dbc rel)) (.ok (.dbnc rel)) (.ok (.dbse rel)) (.ok (.dbht rel))
  | 0x3A#6 => pick4 sub (.ok (.dbn rel)) (.ok (.dbnn rel)) (.ok (.dble rel)) (.ok (.dbgt rel))
  | 0x3B#6 => pick4 sub (.ok (.dbr rel)) (.ok (.frame cd cs)) (.ok (.call cd rs (Const.decode hw2 hw3))) (.ok (.call cd rs (Const.decode hw2 hw3)))
  | 0x3C#6 => pick4 sub (.ok (.bv rel)) (.ok (.bnv rel)) (.ok (.be rel)) (.ok (.bne rel))
  | 0x3D#6 => pick4 sub (.ok (.bc rel)) (.ok (.bnc rel)) (.ok (.bse rel)) (.ok (.bht rel))
  | 0x3E#6 => pick4 sub (.ok (.bn rel)) (.ok (.bnn rel)) (.ok (.ble rel)) (.ok (.bgt rel))
  | _ => pick4 sub (.ok (.br rel)) (.ok (decodeTrap hw1)) (.ok (decodeTrap hw1)) (.ok (decodeTrap hw1))

/-! ## Length and streams (R150) -/

/-- The instruction has a second half-word (R150). -/
def needsSecond (hw1 : Half) : Bool :=
  let op := hw1.toNat / 256
  let n := (countField hw1).toNat
  if 0x10 ≤ op ∧ op ≤ 0x1F then true
  else if 0x60 ≤ op ∧ op ≤ 0x7F then 17 ≤ n ∧ n ≤ 19
  else if 0x90 ≤ op ∧ op ≤ 0x9F then true
  else if op = 0xCE then true
  else if (0xE0 ≤ op ∧ op ≤ 0xEC) ∨ (0xF0 ≤ op ∧ op ≤ 0xFC) then hw1.getLsbD 7
  else op = 0xEE ∨ op = 0xEF

/-- The instruction has a third half-word (R150). -/
def needsThird (hw1 hw2 : Half) : Bool :=
  let op := hw1.toNat / 256
  if 0x60 ≤ op ∧ op ≤ 0x7F then countField hw1 = 17#5
  else if (0x10 ≤ op ∧ op ≤ 0x1F) ∨ (0x90 ≤ op ∧ op ≤ 0x9F) ∨ op = 0xEE ∨ op = 0xEF then longBit hw2
  else false

/-- The length of the instruction in half-words (R150). -/
def lengthOf (hw1 hw2 : Half) : Nat :=
  if needsThird hw1 hw2 then 3 else if needsSecond hw1 then 2 else 1

/-- The first instruction of a sequence of half-words, with the half-words after it; none where the sequence ends too early or the
encoding is reserved. -/
def decodeStream : List Half → Option (Instr × List Half)
  | [] => none
  | hw1 :: rest =>
    let hw2 := rest.headD 0
    let hw3 := (rest.drop 1).headD 0
    let more := lengthOf hw1 hw2 - 1
    if rest.length < more then none else
      match decode hw1 hw2 hw3 with
      | .ok i => some (i, rest.drop more)
      | .reserved _ => none

/-- Half-words from bytes, the high-order byte at the lower address (20_memory R92); an odd last byte is dropped. -/
def halvesOfBytes : List Byte → List Half
  | hi :: lo :: rest => (hi ++ lo) :: halvesOfBytes rest
  | _ => []

/-- The first instruction of a sequence of bytes. -/
def decodeBytes (bs : List Byte) : Option (Instr × List Half) := decodeStream (halvesOfBytes bs)

/-! ## The encoder -/

/-- The bank bit of a register operand (R131). -/
def Reg.bank : Reg → BitVec 1
  | .l _ => 1#1
  | .g _ => 0#1

/-- The register code of a register operand (R131). -/
def Reg.code : Reg → BitVec 4
  | .l c => c
  | .g c => c

/-- Format RR (R135). -/
def hwRR (op : BitVec 6) (rd rs : Reg) : Half := op ++ rd.bank ++ rs.bank ++ rd.code ++ rs.code

/-- Formats Rn and Rimm (R137, R143). -/
def hwRn (op : BitVec 6) (rd : Reg) (n : BitVec 5) : Half :=
  op ++ rd.bank ++ n.extractLsb' 4 1 ++ rd.code ++ n.extractLsb' 0 4

/-- Format Ln (R136). -/
def hwLn (op : BitVec 7) (ld : BitVec 4) (n : BitVec 5) : Half := op ++ n.extractLsb' 4 1 ++ ld ++ n.extractLsb' 0 4

/-- Format LL (R132). -/
def hwLL (op : BitVec 8) (ld ls : BitVec 4) : Half := op ++ ld ++ ls

/-- Formats LR and LRconst (R134, R140). -/
def hwLR (op : BitVec 7) (ld : BitVec 4) (rs : Reg) : Half := op ++ rs.bank ++ ld ++ rs.code

/-- Format PCadr (R138): 11 ones over code(3..2), the trap number, code(1..0). -/
def hwTrap (code : BitVec 4) (t : BitVec 6) : Half := 0x3F#6 ++ code.extractLsb' 2 2 ++ t ++ code.extractLsb' 0 2

/-- n of FETCH k: 2(k - 1) (30 R155). -/
def fetchCount (k : BitVec 4) : BitVec 5 := k ++ 0#1

/-- The further half-words of const (R140). -/
def Const.encode : Const → List Half
  | .short v => [0#1 ++ v]
  | .long v => [1#1 ++ v.extractLsb' 16 15, v.extractLsb' 0 16]

/-- The further half-words of lim with the X-code (R144). -/
def Lim.encode (l : Lim) (x : BitVec 3) : List Half :=
  match l with
  | .short v => [0#1 ++ x ++ v]
  | .long v => [1#1 ++ x ++ v.extractLsb' 16 12, v.extractLsb' 0 16]

/-- The further half-words of a byte displacement with the D-code (R142). -/
def DisB.encode (dis : DisB) (d : BitVec 2) : List Half :=
  match dis with
  | .short v => [0#1 ++ v.extractLsb' 12 1 ++ d ++ v.extractLsb' 0 12]
  | .long v => [1#1 ++ v.extractLsb' 28 1 ++ d ++ v.extractLsb' 16 12, v.extractLsb' 0 16]

/-- The further half-words of a half-word displacement (D-code 2) with the sub-code bit (R142, R148). -/
def DisH.encode (dis : DisH) (low : BitVec 1) : List Half :=
  match dis with
  | .short v => [0#1 ++ v.extractLsb' 11 1 ++ 2#2 ++ v.extractLsb' 0 11 ++ low]
  | .long v => [1#1 ++ v.extractLsb' 27 1 ++ 2#2 ++ v.extractLsb' 15 12, v.extractLsb' 0 15 ++ low]

/-- The further half-words of a word displacement (D-code 3) with the sub-code bits (R142, R148). -/
def DisW.encode (dis : DisW) (low : BitVec 2) : List Half :=
  match dis with
  | .short v => [0#1 ++ v.extractLsb' 10 1 ++ 3#2 ++ v.extractLsb' 0 10 ++ low]
  | .long v => [1#1 ++ v.extractLsb' 26 1 ++ 3#2 ++ v.extractLsb' 14 12, v.extractLsb' 0 14 ++ low]

/-- The half-words of a PC-relative branch (R139). -/
def Rel.encode (r : Rel) (op : BitVec 8) : List Half :=
  match r with
  | .short v => [op ++ 0#1 ++ v.extractLsb' 0 6 ++ v.extractLsb' 6 1]
  | .long v => [op ++ 1#1 ++ v.extractLsb' 15 7, v.extractLsb' 0 15 ++ v.extractLsb' 22 1]

/-- n of an immediate (R145). -/
def Imm.count : Imm → BitVec 5
  | .short n => n
  | .word _ => 17#5
  | .low _ => 18#5
  | .high _ => 19#5

/-- The further half-words of an immediate (R145). -/
def Imm.tail : Imm → List Half
  | .short _ => []
  | .word v => [v.extractLsb' 16 16, v.extractLsb' 0 16]
  | .low v => [v]
  | .high v => [v]

/-- The half-words of an instruction (R132 to R149). -/
def encode : Instr → List Half
  | .divu rd rs => [hwRR 0x02#6 rd rs]
  | .divs rd rs => [hwRR 0x03#6 rd rs]
  | .cmp rd rs => [hwRR 0x08#6 rd rs]
  | .mov rd rs => [hwRR 0x09#6 rd rs]
  | .add rd rs => [hwRR 0x0A#6 rd rs]
  | .adds rd rs => [hwRR 0x0B#6 rd rs]
  | .cmpb rd rs => [hwRR 0x0C#6 rd rs]
  | .andn rd rs => [hwRR 0x0D#6 rd rs]
  | .or rd rs => [hwRR 0x0E#6 rd rs]
  | .xor rd rs => [hwRR 0x0F#6 rd rs]
  | .subc rd rs => [hwRR 0x10#6 rd rs]
  | .not rd rs => [hwRR 0x11#6 rd rs]
  | .sub rd rs => [hwRR 0x12#6 rd rs]
  | .subs rd rs => [hwRR 0x13#6 rd rs]
  | .addc rd rs => [hwRR 0x14#6 rd rs]
  | .and rd rs => [hwRR 0x15#6 rd rs]
  | .neg rd rs => [hwRR 0x16#6 rd rs]
  | .negs rd rs => [hwRR 0x17#6 rd rs]
  | .mulu rd rs => [hwRR 0x2C#6 rd rs]
  | .muls rd rs => [hwRR 0x2D#6 rd rs]
  | .mul rd rs => [hwRR 0x2F#6 rd rs]
  | .chk rd rs => [hwRR 0x00#6 rd rs]
  | .chkz rd => [hwRR 0x00#6 rd (.g 1)]
  | .nop => [0x0300#16]
  | .movd rd rs => [hwRR 0x01#6 rd rs]
  | .ret rs => [hwRR 0x01#6 (.g 0) rs]
  | .xm1 rd rs lim => hwRR 0x04#6 rd rs :: lim.encode 0#3
  | .xm2 rd rs lim => hwRR 0x04#6 rd rs :: lim.encode 1#3
  | .xm4 rd rs lim => hwRR 0x04#6 rd rs :: lim.encode 2#3
  | .xm8 rd rs lim => hwRR 0x04#6 rd rs :: lim.encode 3#3
  | .xx1 rd rs lim => hwRR 0x04#6 rd rs :: lim.encode 4#3
  | .xx2 rd rs lim => hwRR 0x04#6 rd rs :: lim.encode 5#3
  | .xx4 rd rs lim => hwRR 0x04#6 rd rs :: lim.encode 6#3
  | .xx8 rd rs lim => hwRR 0x04#6 rd rs :: lim.encode 7#3
  | .mask rd rs const => hwRR 0x05#6 rd rs :: const.encode
  | .sum rd rs const => hwRR 0x06#6 rd rs :: const.encode
  | .sums rd rs const => hwRR 0x07#6 rd rs :: const.encode
  | .cmpi rd imm => hwRn 0x18#6 rd imm.count :: imm.tail
  | .movi rd imm => hwRn 0x19#6 rd imm.count :: imm.tail
  | .addi rd imm => hwRn 0x1A#6 rd imm.count :: imm.tail
  | .addsi rd imm => hwRn 0x1B#6 rd imm.count :: imm.tail
  | .cmpbi rd imm => hwRn 0x1C#6 rd imm.count :: imm.tail
  | .andni rd imm => hwRn 0x1D#6 rd imm.count :: imm.tail
  | .ori rd imm => hwRn 0x1E#6 rd imm.count :: imm.tail
  | .xori rd imm => hwRn 0x1F#6 rd imm.count :: imm.tail
  | .addiCz rd => [hwRn 0x1A#6 rd 0#5]
  | .addsiCz rd => [hwRn 0x1B#6 rd 0#5]
  | .cmpbiAnybz rd => [hwRn 0x1C#6 rd 0#5]
  | .shrdi ld n => [hwLn 0x40#7 ld n]
  | .shrd ld ls => [hwLL 0x82#8 ld ls]
  | .shr ld ls => [hwLL 0x83#8 ld ls]
  | .sardi ld n => [hwLn 0x42#7 ld n]
  | .sard ld ls => [hwLL 0x86#8 ld ls]
  | .sar ld ls => [hwLL 0x87#8 ld ls]
  | .shldi ld n => [hwLn 0x44#7 ld n]
  | .shld ld ls => [hwLL 0x8A#8 ld ls]
  | .shl ld ls => [hwLL 0x8B#8 ld ls]
  | .testlz ld ls => [hwLL 0x8E#8 ld ls]
  | .rol ld ls => [hwLL 0x8F#8 ld ls]
  | .shri rd n => [hwRn 0x28#6 rd n]
  | .sari rd n => [hwRn 0x29#6 rd n]
  | .shli rd n => [hwRn 0x2A#6 rd n]
  | .ldbsD rd rs dis => hwRR 0x24#6 rd rs :: dis.encode 0#2
  | .ldbsA rs dis => hwRR 0x24#6 (.g 1) rs :: dis.encode 0#2
  | .ldbuD rd rs dis => hwRR 0x24#6 rd rs :: dis.encode 1#2
  | .ldbuA rs dis => hwRR 0x24#6 (.g 1) rs :: dis.encode 1#2
  | .ldhuD rd rs dis => hwRR 0x24#6 rd rs :: dis.encode 0#1
  | .ldhuA rs dis => hwRR 0x24#6 (.g 1) rs :: dis.encode 0#1
  | .ldhsD rd rs dis => hwRR 0x24#6 rd rs :: dis.encode 1#1
  | .ldhsA rs dis => hwRR 0x24#6 (.g 1) rs :: dis.encode 1#1
  | .ldwD rd rs dis => hwRR 0x24#6 rd rs :: dis.encode 0#2
  | .ldwA rs dis => hwRR 0x24#6 (.g 1) rs :: dis.encode 0#2
  | .lddD rd rs dis => hwRR 0x24#6 rd rs :: dis.encode 1#2
  | .lddA rs dis => hwRR 0x24#6 (.g 1) rs :: dis.encode 1#2
  | .ldwIod rd rs dis => hwRR 0x24#6 rd rs :: dis.encode 2#2
  | .ldwIoa rs dis => hwRR 0x24#6 (.g 1) rs :: dis.encode 2#2
  | .lddIod rd rs dis => hwRR 0x24#6 rd rs :: dis.encode 3#2
  | .lddIoa rs dis => hwRR 0x24#6 (.g 1) rs :: dis.encode 3#2
  | .ldbsN rd rs dis => hwRR 0x25#6 rd rs :: dis.encode 0#2
  | .ldbuN rd rs dis => hwRR 0x25#6 rd rs :: dis.encode 1#2
  | .ldhuN rd rs dis => hwRR 0x25#6 rd rs :: dis.encode 0#1
  | .ldhsN rd rs dis => hwRR 0x25#6 rd rs :: dis.encode 1#1
  | .ldwN rd rs dis => hwRR 0x25#6 rd rs :: dis.encode 0#2
  | .lddN rd rs dis => hwRR 0x25#6 rd rs :: dis.encode 1#2
  | .ldwS rd rs dis => hwRR 0x25#6 rd rs :: dis.encode 3#2
  | .stbsD rd rs dis => hwRR 0x26#6 rd rs :: dis.encode 0#2
  | .stbsA rs dis => hwRR 0x26#6 (.g 1) rs :: dis.encode 0#2
  | .stbuD rd rs dis => hwRR 0x26#6 rd rs :: dis.encode 1#2
  | .stbuA rs dis => hwRR 0x26#6 (.g 1) rs :: dis.encode 1#2
  | .sthuD rd rs dis => hwRR 0x26#6 rd rs :: dis.encode 0#1
  | .sthuA rs dis => hwRR 0x26#6 (.g 1) rs :: dis.encode 0#1
  | .sthsD rd rs dis => hwRR 0x26#6 rd rs :: dis.encode 1#1
  | .sthsA rs dis => hwRR 0x26#6 (.g 1) rs :: dis.encode 1#1
  | .stwD rd rs dis => hwRR 0x26#6 rd rs :: dis.encode 0#2
  | .stwA rs dis => hwRR 0x26#6 (.g 1) rs :: dis.encode 0#2
  | .stdD rd rs dis => hwRR 0x26#6 rd rs :: dis.encode 1#2
  | .stdA rs dis => hwRR 0x26#6 (.g 1) rs :: dis.encode 1#2
  | .stwIod rd rs dis => hwRR 0x26#6 rd rs :: dis.encode 2#2
  | .stwIoa rs dis => hwRR 0x26#6 (.g 1) rs :: dis.encode 2#2
  | .stdIod rd rs dis => hwRR 0x26#6 rd rs :: dis.encode 3#2
  | .stdIoa rs dis => hwRR 0x26#6 (.g 1) rs :: dis.encode 3#2
  | .stbsN rd rs dis => hwRR 0x27#6 rd rs :: dis.encode 0#2
  | .stbuN rd rs dis => hwRR 0x27#6 rd rs :: dis.encode 1#2
  | .sthuN rd rs dis => hwRR 0x27#6 rd rs :: dis.encode 0#1
  | .sthsN rd rs dis => hwRR 0x27#6 rd rs :: dis.encode 1#1
  | .stwN rd rs dis => hwRR 0x27#6 rd rs :: dis.encode 0#2
  | .stdN rd rs dis => hwRR 0x27#6 rd rs :: dis.encode 1#2
  | .stwS rd rs dis => hwRR 0x27#6 rd rs :: dis.encode 3#2
  | .ldwR ld rs => [hwLR 0x68#7 ld rs]
  | .lddR ld rs => [hwLR 0x69#7 ld rs]
  | .ldwP ld rs => [hwLR 0x6A#7 ld rs]
  | .lddP ld rs => [hwLR 0x6B#7 ld rs]
  | .stwR ld rs => [hwLR 0x6C#7 ld rs]
  | .stdR ld rs => [hwLR 0x6D#7 ld rs]
  | .stwP ld rs => [hwLR 0x6E#7 ld rs]
  | .stdP ld rs => [hwLR 0x6F#7 ld rs]
  | .setadr rd => [hwRn 0x2E#6 rd 0#5]
  | .fetch k => [hwRn 0x2E#6 (.g 1) (fetchCount k)]
  | .set1 rd => [hwRn 0x2E#6 rd 2#5]
  | .set0 rd => [hwRn 0x2E#6 rd 3#5]
  | .setle rd => [hwRn 0x2E#6 rd 4#5]
  | .setgt rd => [hwRn 0x2E#6 rd 5#5]
  | .setlt rd => [hwRn 0x2E#6 rd 6#5]
  | .setge rd => [hwRn 0x2E#6 rd 7#5]
  | .setse rd => [hwRn 0x2E#6 rd 8#5]
  | .setht rd => [hwRn 0x2E#6 rd 9#5]
  | .setst rd => [hwRn 0x2E#6 rd 10#5]
  | .sethe rd => [hwRn 0x2E#6 rd 11#5]
  | .sete rd => [hwRn 0x2E#6 rd 12#5]
  | .setne rd => [hwRn 0x2E#6 rd 13#5]
  | .setv rd => [hwRn 0x2E#6 rd 14#5]
  | .setnv rd => [hwRn 0x2E#6 rd 15#5]
  | .set1M rd => [hwRn 0x2E#6 rd 18#5]
  | .setleM rd => [hwRn 0x2E#6 rd 20#5]
  | .setgtM rd => [hwRn 0x2E#6 rd 21#5]
  | .setltM rd => [hwRn 0x2E#6 rd 22#5]
  | .setgeM rd => [hwRn 0x2E#6 rd 23#5]
  | .setseM rd => [hwRn 0x2E#6 rd 24#5]
  | .sethtM rd => [hwRn 0x2E#6 rd 25#5]
  | .setstM rd => [hwRn 0x2E#6 rd 26#5]
  | .setheM rd => [hwRn 0x2E#6 rd 27#5]
  | .seteM rd => [hwRn 0x2E#6 rd 28#5]
  | .setneM rd => [hwRn 0x2E#6 rd 29#5]
  | .setvM rd => [hwRn 0x2E#6 rd 30#5]
  | .setnvM rd => [hwRn 0x2E#6 rd 31#5]
  | .fadd ld ls => [hwLL 0xC0#8 ld ls]
  | .faddd ld ls => [hwLL 0xC1#8 ld ls]
  | .fsub ld ls => [hwLL 0xC2#8 ld ls]
  | .fsubd ld ls => [hwLL 0xC3#8 ld ls]
  | .fmul ld ls => [hwLL 0xC4#8 ld ls]
  | .fmuld ld ls => [hwLL 0xC5#8 ld ls]
  | .fdiv ld ls => [hwLL 0xC6#8 ld ls]
  | .fdivd ld ls => [hwLL 0xC7#8 ld ls]
  | .fcmp ld ls => [hwLL 0xC8#8 ld ls]
  | .fcmpd ld ls => [hwLL 0xC9#8 ld ls]
  | .fcmpu ld ls => [hwLL 0xCA#8 ld ls]
  | .fcmpud ld ls => [hwLL 0xCB#8 ld ls]
  | .fcvt ld ls => [hwLL 0xCC#8 ld ls]
  | .fcvtd ld ls => [hwLL 0xCD#8 ld ls]
  | .emul ld ls => [hwLL 0xCE#8 ld ls, 0x0102#16]
  | .emulu ld ls => [hwLL 0xCE#8 ld ls, 0x0104#16]
  | .emuls ld ls => [hwLL 0xCE#8 ld ls, 0x0106#16]
  | .emac ld ls => [hwLL 0xCE#8 ld ls, 0x010A#16]
  | .emacd ld ls => [hwLL 0xCE#8 ld ls, 0x010E#16]
  | .emsub ld ls => [hwLL 0xCE#8 ld ls, 0x011A#16]
  | .emsubd ld ls => [hwLL 0xCE#8 ld ls, 0x011E#16]
  | .ehmac ld ls => [hwLL 0xCE#8 ld ls, 0x002A#16]
  | .ehmacd ld ls => [hwLL 0xCE#8 ld ls, 0x002E#16]
  | .ehcmuld ld ls => [hwLL 0xCE#8 ld ls, 0x0046#16]
  | .ehcmacd ld ls => [hwLL 0xCE#8 ld ls, 0x004E#16]
  | .ehcsumd ld ls => [hwLL 0xCE#8 ld ls, 0x0086#16]
  | .ehcfftd ld ls => [hwLL 0xCE#8 ld ls, 0x0096#16]
  | .ehcfftsd ld ls => [hwLL 0xCE#8 ld ls, 0x0296#16]
  | .softDo ld ls => [hwLL 0xCF#8 ld ls]
  | .dbv rel => rel.encode 0xE0#8
  | .dbnv rel => rel.encode 0xE1#8
  | .dbe rel => rel.encode 0xE2#8
  | .dbne rel => rel.encode 0xE3#8
  | .dbc rel => rel.encode 0xE4#8
  | .dbnc rel => rel.encode 0xE5#8
  | .dbse rel => rel.encode 0xE6#8
  | .dbht rel => rel.encode 0xE7#8
  | .dbn rel => rel.encode 0xE8#8
  | .dbnn rel => rel.encode 0xE9#8
  | .dble rel => rel.encode 0xEA#8
  | .dbgt rel => rel.encode 0xEB#8
  | .dbr rel => rel.encode 0xEC#8
  | .frame ld ls => [hwLL 0xED#8 ld ls]
  | .call ld rs const => hwLR 0x77#7 ld rs :: const.encode
  | .bv rel => rel.encode 0xF0#8
  | .bnv rel => rel.encode 0xF1#8
  | .be rel => rel.encode 0xF2#8
  | .bne rel => rel.encode 0xF3#8
  | .bc rel => rel.encode 0xF4#8
  | .bnc rel => rel.encode 0xF5#8
  | .bse rel => rel.encode 0xF6#8
  | .bht rel => rel.encode 0xF7#8
  | .bn rel => rel.encode 0xF8#8
  | .bnn rel => rel.encode 0xF9#8
  | .ble rel => rel.encode 0xFA#8
  | .bgt rel => rel.encode 0xFB#8
  | .br rel => rel.encode 0xFC#8
  | .traple trapno => [hwTrap 4#4 trapno]
  | .trapgt trapno => [hwTrap 5#4 trapno]
  | .traplt trapno => [hwTrap 6#4 trapno]
  | .trapge trapno => [hwTrap 7#4 trapno]
  | .trapse trapno => [hwTrap 8#4 trapno]
  | .trapht trapno => [hwTrap 9#4 trapno]
  | .trapst trapno => [hwTrap 10#4 trapno]
  | .traphe trapno => [hwTrap 11#4 trapno]
  | .trape trapno => [hwTrap 12#4 trapno]
  | .trapne trapno => [hwTrap 13#4 trapno]
  | .trapv trapno => [hwTrap 14#4 trapno]
  | .trap trapno => [hwTrap 15#4 trapno]

/-- The instruction's length in half-words. -/
def Instr.length (i : Instr) : Nat := (encode i).length

/-- The instruction that the decoder reads from the half-words of a list; half-words past its end are 0. -/
def decodeHalves (hs : List Half) : Decoded := decode (hs.getD 0 0) (hs.getD 1 0) (hs.getD 2 0)

/-- Half-word k of an instruction whose bits w are numbered from the least significant bit of the first half-word; bits at and above
nbits are 0. -/
def tableHalf (nbits w k : Nat) : Half := BitVec.ofNat 16 (w % 2 ^ nbits / 2 ^ (16 * k))

/-- The four, six or two bytes of that instruction as the hardware stores them: each half-word high-order byte first (20_memory R92). -/
def tableBytes (nbits w : Nat) : List Byte :=
  [0, 1, 2].flatMap fun k => [(tableHalf nbits w k).extractLsb' 8 8, (tableHalf nbits w k).extractLsb' 0 8]

/-- The decoder on one word of the opcode table. -/
def decodeTableWord (nbits w : Nat) : Option Instr := (decodeBytes (tableBytes nbits w)).map (·.1)

end Sys2Proof
end

