-- ==== Sys2Proof/Machine/State.lean ====
section
/-! DEFINITION. Machine/State.lean: everything the spec gives the machine, as plain data (spec/10_state.md), the outcomes of a step that are
not a next state, and the state after a RESET# pin reset (10_state R76). INVENTORY.md lists every field with its rule and reset value. -/

namespace Sys2Proof.Machine

/-- The status register G1 (10_state R26), field by field, lowest bit first; `Machine/Status.lean` reads and writes it as one word
(log 9). -/
structure StatusReg where
  /-- SR(0), carry (R28). -/
  c : Bool
  /-- SR(1), zero (R29). -/
  z : Bool
  /-- SR(2), negative (R30). -/
  n : Bool
  /-- SR(3), overflow (R31). -/
  v : Bool
  /-- SR(4), cache-mode (R33). -/
  m : Bool
  /-- SR(5), high global (R32). -/
  h : Bool
  /-- SR(6), reserved, stored (R34). -/
  r6 : Bool
  /-- SR(7), interrupt-mode (R35). -/
  i : Bool
  /-- SR(12..8), floating-point trap enables (R36). -/
  fte : BitVec 5
  /-- SR(14..13), floating-point rounding mode (R37). -/
  frm : BitVec 2
  /-- SR(15), interrupt-lock (R38). -/
  l : Bool
  /-- SR(16), trace-mode (R39). -/
  t : Bool
  /-- SR(17), trace pending (R40). -/
  p : Bool
  /-- SR(18), supervisor state (R41). -/
  s : Bool
  /-- SR(20..19), instruction-length code (R42). -/
  ilc : BitVec 2
  /-- SR(24..21), frame length, 0 means 16 (R43). -/
  fl : BitVec 4
  /-- SR(31..25), frame pointer (R44). -/
  fp : BitVec 7
  deriving DecidableEq, Repr

/-- The timer (10_state R52 to R54, R71). -/
structure Timer where
  /-- G21, timer prescaler register. -/
  tpr : Word
  /-- A TPR written with bit 31 = 1, until the current time unit ends (R71). -/
  tprPending : Option Word
  /-- G22, timer compare register. -/
  tcr : Word
  /-- G23, timer register. -/
  tr : Word
  /-- Processor cycles since the current time unit began (R71). -/
  prescaler : Nat
  deriving DecidableEq, Repr

/-- The IO3 unit (10_state R55, R56, R71). -/
structure Io3 where
  /-- G24(15..0), watchdog compare register; bits 31..16 read as zero. -/
  wcr : BitVec 16
  /-- ISR(8). -/
  eventFlag : Bool
  /-- ISR(7). -/
  equalFlag : Bool
  /-- The IO3 toggle latch (R71). -/
  toggleLatch : Bool
  /-- The MODEL's own: WCR = TR(15..0) was already seen in this time unit (log 30). -/
  equalSeen : Bool
  deriving DecidableEq, Repr

/-- The bus registers (10_state R50, R72, R74). -/
structure Bus where
  /-- G20, bus control register. -/
  bcr : Word
  /-- G27, memory control register. -/
  mcr : Word
  /-- SDRAM control register: the address it was set from. -/
  sdcr : Word
  /-- The mode register inside the SDRAM devices: the address it was set from (20_memory R99; log 15). -/
  sdramMode : Word
  deriving DecidableEq, Repr

/-- The delayed-branch state (10_state R65). -/
inductive Delay where
  /-- The next instruction is no delay instruction. -/
  | none
  /-- It is the delay instruction of a Delayed Branch that was not taken. -/
  | notTaken
  /-- It is the delay instruction, at `slot`, of a Delayed Branch that was taken; the PC holds the target. -/
  | taken (slot : Word)
  deriving DecidableEq, Repr

/-- The power state (10_state R75). -/
inductive Power where
  | running
  | powerDown
  | sleep
  deriving DecidableEq, Repr

/-- The levels that the environment puts on the interrupt and I/O pins (00_scope R6). -/
structure Pins where
  int1 : Bool
  int2 : Bool
  int3 : Bool
  int4 : Bool
  io1 : Bool
  io2 : Bool
  io3 : Bool
  deriving DecidableEq, Repr

/-- What the environment does in one step (92 INT_PINS, TIMER_RATE, PARITY; log 5). -/
structure EnvInput where
  /-- The pin levels. -/
  pins : Pins
  /-- How many processor cycles the step takes. -/
  cycles : Nat
  /-- A reset from the RESET# pin. -/
  resetPin : Bool
  /-- Bit k: a read of MEMk in this step has a parity error. -/
  parity : BitVec 4
  deriving DecidableEq, Repr

/-- The width of MEM3 that the boot pins select (10_state R72). -/
inductive BootWidth where
  | w8
  | w16
  | w32
  deriving DecidableEq, Repr

/-- The part and what it has of boot pins (00_scope R5). -/
inductive Variant where
  /-- BOOTW and BOOTB select any of the three widths. -/
  | e1_32xs (boot : BootWidth)
  /-- BOOTW is tied to BOOTB inside: 8 bits where the pin BOOTB is high, 16 where it is low (70 R584). -/
  | e1_16xs (bootb : Bool)
  deriving DecidableEq, Repr

/-- A populated range of a memory area, by offsets in the area; ROM where not writable (20_memory R97). -/
structure MemRange where
  first : Nat
  last : Nat
  writable : Bool
  deriving DecidableEq, Repr

/-- What the board connects in a memory area: of the address that the pins show it, offsets repeat modulo `wrap`; 0 stands for no repetition
(20_memory R97, R98). -/
structure AreaMap where
  wrap : Nat
  ranges : List MemRange
  deriving DecidableEq, Repr

/-- The board: the platform parameters VARIANT, BOOT_WIDTH and MEM (92; log 3, log 4). -/
structure Platform where
  variant : Variant
  mem0 : AreaMap
  mem1 : AreaMap
  mem2 : AreaMap
  mem3 : AreaMap
  deriving DecidableEq, Repr

/-- The instruction cache (10_state R70, 20_memory R114; log 53). -/
structure Cache where
  /-- The look-back counter: the lowest address of the instruction words available. -/
  lookBack : Word
  /-- The look-ahead counter: the highest one. -/
  lookAhead : Word
  /-- The MODEL's own: a flush has placed the same branch address in both counters and no word is available yet (R118). -/
  empty : Bool
  /-- The word with address w, where it is available, is at location w(6..2). -/
  words : Vector Word 32
  /-- The MODEL's own: a Delayed Branch taken flushes the cache, which happens once its delay instruction has been fetched (log 18). -/
  flushAfterSlot : Bool
  deriving DecidableEq, Repr

/-- The MODEL's own: how often the memory on the chip, and MEM0 as DRAM, have lost their content (70 R583, 61 R544; log 33). -/
structure Losses where
  iram : Nat
  mem0 : Nat
  deriving DecidableEq, Repr

/-- The machine. -/
structure State where
  /-- G0, program counter; bit 0 is always zero (10_state R22). -/
  pc : Word
  /-- G1, status register. -/
  sr : StatusReg
  /-- G2..G15: entry k is G(k + 2) (R45, R46). -/
  g : Vector Word 14
  /-- L0..L63, by absolute number (R60). -/
  locals : Vector Word 64
  /-- G18, stack pointer (R48). -/
  sp : Word
  /-- G19, upper stack bound (R49). -/
  ub : Word
  /-- G26, function control register (R57). -/
  fcr : Word
  timer : Timer
  io3 : Io3
  bus : Bus
  /-- ISR(10): the last reset was the wakeup from sleep (R56). -/
  clockOnFlag : Bool
  /-- ISR(9): the last reset was the watchdog's (R56). -/
  watchdogFlag : Bool
  /-- Pended Extended Overflow condition (R67). -/
  eovPending : Bool
  /-- Pended Parity Error condition (R68). -/
  parityPending : Bool
  delay : Delay
  /-- The next instruction follows a Call (R66). -/
  callLockout : Bool
  power : Power
  /-- Memory: canonical, addresses strictly rising, no entry equal to what an unlisted cell reads as (Machine/Memory.lean). -/
  mem : List Host.Cell
  lost : Losses
  cache : Cache
  pins : Pins
  /-- Bit k: a read of MEMk in this step has a parity error. -/
  parityLines : BitVec 4
  /-- The MODEL's own: the environment's inputs of the coming steps, the next one first (log 5). -/
  schedule : List EnvInput
  platform : Platform
  /-- The MODEL's own: the I/O accesses so far, the newest first (log 28). -/
  ioLog : List IoEvent
  /-- The MODEL's own: how many free values have been drawn (log 6). -/
  draws : Nat
  deriving DecidableEq, Repr

/-- Reasons to stop with a fault: none. "There is no double-fault state and nothing halts the processor" (60_exceptions R485; log 47). -/
inductive Fault where
  deriving DecidableEq, Repr

/-- Reasons a step has no meaning. Every one but the first is a treatment `refuse` of spec/93_implementation_defined.md or of D6; stopping
where the hardware does something unknown is safe. -/
inductive Refusal where
  /-- No meaning in the model yet. Raised by exec's arms only. Safe. -/
  | notModelled (mnemonic : String)
  /-- A reserved or undefined encoding (30_encoding R151, D6). Raised by the step. Safe. -/
  | undecodable (why : DecodeError)
  /-- With H = 1, a global register code in an instruction or form that does not allow it (93 U4). Safe. -/
  | highGlobal
  /-- A reserved register: G16, G17, G28..G31, or the one following G15 (93 U5). Safe. -/
  | reservedRegister
  /-- The PC as the destination of an instruction that must not have it (93 U12). Safe. -/
  | pcDestination
  /-- A read with address bit 29 = 1 from SDRAM (93 U20). Safe. -/
  | sdramConfigRead
  /-- Base and effective address on different sides of an IRAM boundary (93 U21). Safe. -/
  | iramBoundary
  /-- An internal I/O address other than power-down and sleep (93 U22). Safe. -/
  | ioInternal
  /-- A load into the PC, the SR, G14 or G15 (93 U30). Safe. -/
  | loadDestination
  /-- A branching instruction or FETCH as delay instruction (93 U36). Safe. -/
  | branchInDelaySlot
  /-- A Delayed Branch and its delay instruction together longer than three half-words (93 U37). Safe. -/
  | delayPairTooLong
  /-- An entry address is needed while MCR(14..12) is reserved (93 U40). Safe. -/
  | entryTableReserved
  /-- An access to an area whose bus size code is 01 (93 U52). Safe. -/
  | busSizeReserved
  /-- An access to an area of the E1-16XS with the bus size code 00, 32 bits: it "cannot be used" there (70 R584; log 24). Safe. -/
  | busSizeUnusable
  /-- An access to MEM0 while its DRAM type is reserved (93 U53). Safe. -/
  | dramTypeReserved
  deriving DecidableEq, Repr

/-- The SR after reset (10_state R76): S = L = 1, M = T = 0, H = 0 (R77), FL = 2; the rest undefined there (log 1). -/
def StatusReg.reset : StatusReg :=
  { c := false, z := false, n := false, v := false, m := false, h := false, r6 := false, i := false, fte := 0, frm := 0,
    l := true, t := false, p := false, s := true, ilc := 0, fl := 2, fp := 0 }

/-- All pins low (log 5). -/
def Pins.low : Pins :=
  { int1 := false, int2 := false, int3 := false, int4 := false, io1 := false, io2 := false, io3 := false }

/-- An empty cache at an address. The words are never read before they are loaded (log 53). -/
def Cache.reset : Cache :=
  { lookBack := 0xFFFFFFF8, lookAhead := 0xFFFFFFF8, empty := true, words := Vector.replicate 32 0, flushAfterSlot := false }

/-- A board of an E1-32XS that boots with 8 bits, with 64 MBytes of RAM, all that A25..A0 reach, in every external area (log 3, log 4). -/
def Platform.allRam : Platform :=
  let ram : AreaMap := { wrap := 0x4000000, ranges := [{ first := 0, last := 0x3FFFFFF, writable := true }] }
  { variant := .e1_32xs .w8, mem0 := ram, mem1 := ram, mem2 := ram, mem3 := ram }

/-- The machine right after a reset from the RESET# pin (10_state R76 to R78). Registers without a reset value in the spec hold zero
(log 1). -/
def State.reset : State :=
  { pc := 0xFFFFFFF8
    sr := StatusReg.reset
    g := Vector.replicate 14 0
    locals := Vector.replicate 64 0
    sp := 0
    ub := 0
    fcr := 0xFFFFFFFF
    timer := { tpr := 0x0C000000, tprPending := none, tcr := 0, tr := 0, prescaler := 0 }
    io3 := { wcr := 0, eventFlag := false, equalFlag := false, toggleLatch := false, equalSeen := false }
    bus := { bcr := 0xFFFFFFFF, mcr := 0xFFFFFFFF, sdcr := 0xFFFFFFFF, sdramMode := 0 }
    clockOnFlag := false
    watchdogFlag := false
    eovPending := false
    parityPending := false
    delay := .none
    callLockout := false
    power := .running
    mem := []
    lost := { iram := 0, mem0 := 0 }
    cache := Cache.reset
    pins := Pins.low
    parityLines := 0
    schedule := []
    platform := Platform.allRam
    ioLog := []
    draws := 0 }

end Sys2Proof.Machine
end

