-- ==== Sys2Proof/Machine/Cache.lean ====
section
/-! DEFINITION. Machine/Cache.lean: the instruction cache by itself: 32 words in a circular buffer between a look-back and a look-ahead counter
(spec/10_state.md R70, spec/20_memory.md R114 to R119; log 53). -/

namespace Sys2Proof.Machine

/-- The address of the instruction word that an address lies in. -/
def wordAddress (a : Word) : Word := a &&& 0xFFFFFFFC

/-- The cache location of a word: bits 6..2 of its address (R114). -/
def cacheSlot (w : Word) : Fin 32 := (w.extractLsb' 2 5).toFin

/-- The address of the word that is loaded next (R115, R118). -/
def Cache.next (c : Cache) : Word := if c.empty then c.lookAhead else c.lookAhead + 4

/-- The next word is loaded: the look-ahead counter moves to it, and the look-back counter up by four where the location it addresses is
overwritten (R115). -/
def Cache.load (c : Cache) (v : Word) : Cache :=
  { c with
    lookBack := if !c.empty && cacheSlot c.next == cacheSlot c.lookBack then c.lookBack + 4 else c.lookBack
    lookAhead := c.next
    empty := false
    words := c.words.set (cacheSlot c.next) v }

/-- The word with this address is available: not below the look-back and not above the look-ahead counter (R114). -/
def Cache.holds (c : Cache) (w : Word) : Bool :=
  !c.empty && decide ((w - c.lookBack).toNat ≤ (c.lookAhead - c.lookBack).toNat)

/-- The half-word at an address, from the cache: the high-order half of its word first (R92, R114). -/
def Cache.half (c : Cache) (a : Word) : Half :=
  c.words[cacheSlot a].extractLsb' (if a.getLsbD 1 then 0 else 16) 16

/-- Both counters at an address, and nothing available. -/
def Cache.restart (c : Cache) (a : Word) : Cache := { c with lookBack := wordAddress a, lookAhead := wordAddress a, empty := true }

/-- A branch to an address flushes the cache: "placing the branch address in the look-back and the look-ahead counter" (R118). -/
def Cache.flush (c : Cache) (a : Word) : Cache := { c.restart a with flushAfterSlot := false }

/-- "The branch target is treated as being in the cache when the target address of a backward branch is not lower than the address in the look-back
counter and the target address of a forward branch is not higher than two words above the address in the look-ahead counter" (R116), by the
words' addresses (log 53). -/
def Cache.reaches (c : Cache) (backward : Bool) (target : Word) : Bool :=
  if backward then !(wordAddress target - c.lookBack).msb else !(c.lookAhead + 8 - wordAddress target).msb

/-- What the cache keeps to: both counters address words, at most 32 words lie between them (R114), and after a flush both are the same (R118). -/
def Cache.wf (c : Cache) : Bool :=
  decide (c.lookBack.extractLsb' 0 2 = 0) && decide (c.lookAhead.extractLsb' 0 2 = 0) && decide ((c.lookAhead - c.lookBack).toNat ≤ 124) &&
    (!c.empty || c.lookAhead == c.lookBack)

end Sys2Proof.Machine
end

