-- ==== Sys2Proof/Machine/Memory.lean ====
section
/-! DEFINITION. Machine/Memory.lean: memory as a canonical list of cells, the memory areas and the platform behind them
(spec/20_memory.md R90 to R104). -/

namespace Sys2Proof.Machine

/-! ## The list of cells -/

/-- The byte in cell `a`; a cell that is not listed holds its blank byte. -/
def Memory.get (blank : Nat → Byte) : List Host.Cell → Nat → Byte
  | [], a => blank a
  | (k, v) :: t, a => if k = a then v else Memory.get blank t a

/-- Put a byte in cell `a`, keeping the canonical form. -/
def Memory.set (blank : Nat → Byte) : List Host.Cell → Nat → Byte → List Host.Cell
  | [], a, v => if v = blank a then [] else [(a, v)]
  | (k, w) :: t, a, v =>
    if a < k then (if v = blank a then (k, w) :: t else (a, v) :: (k, w) :: t)
    else if a = k then (if v = blank a then t else (a, v) :: t)
    else (k, w) :: Memory.set blank t a v

/-- Addresses strictly rise from `lo` on and no entry is blank. -/
def Memory.risesFrom (blank : Nat → Byte) : Nat → List Host.Cell → Bool
  | _, [] => true
  | lo, (k, v) :: t => decide (lo ≤ k) && v != blank k && Memory.risesFrom blank (k + 1) t

/-- The canonical form: addresses strictly rising, no entry equal to what an unlisted cell reads as. -/
def Memory.wf (blank : Nat → Byte) (m : List Host.Cell) : Bool := Memory.risesFrom blank 0 m

/-- The cell is one of the memory on the chip (R100). -/
def inIram (cell : Nat) : Bool := decide (0xC0000000 ≤ cell) && decide (cell < 0xE0000000)

/-- The cell is one of MEM0 (R96). -/
def inMem0 (cell : Nat) : Bool := decide (cell < 0x40000000)

/-- What an unlisted cell reads as after these losses: the byte of log 4, or, once its area has lost its content, any (R100; log 33). -/
def Losses.blank (l : Losses) (cell : Nat) : Byte :=
  if inIram cell && l.iram != 0 then Config.lostByte l.iram cell
  else if inMem0 cell && l.mem0 != 0 then Config.lostByte l.mem0 cell
  else Config.blankByte

/-- The machine's memory has the canonical form. -/
def State.memWf (s : State) : Bool := Memory.wf s.lost.blank s.mem

/-! ## Areas (R96 to R100) -/

/-- The five partitions of the memory address space (R96). -/
inductive Area where
  | mem0 | mem1 | mem2 | iram | mem3
  deriving DecidableEq, Repr

/-- The area an address lies in, by bits 31..29 (R96). -/
def areaOf (a : Word) : Area :=
  if a.getLsbD 31 then (if a.getLsbD 30 then (if a.getLsbD 29 then .mem3 else .iram) else .mem2)
  else if a.getLsbD 30 then .mem1 else .mem0

/-- The first address of an area (R96). -/
def Area.base : Area → Nat
  | .mem0 => 0
  | .mem1 => 0x40000000
  | .mem2 => 0x80000000
  | .iram => 0xC0000000
  | .mem3 => 0xE0000000

/-- How many address bits leave the chip: A25..A0 or A21..A0 (R98, R109). -/
def Variant.addressPins : Variant → Nat
  | .e1_32xs _ => 26
  | .e1_16xs _ => 22

/-- What a device sees of an address: the bits that leave the chip (R109). -/
def Variant.onPins (v : Variant) (a : Word) : Word := BitVec.ofNat 32 (a.toNat % 2 ^ v.addressPins)

/-- How many bytes of an area the processor tells apart: A25..A0 or A21..A0 leave the chip; DRAM in MEM0 gets the higher bits as row
address (R98); the memory on the chip has 16 KBytes (R100). -/
def Platform.visibleSize (p : Platform) (mcr : Word) (area : Area) : Nat :=
  if area = .iram then 0x4000
  else if area = .mem0 && !mcr.getLsbD 21 then 0x40000000
  else 2 ^ p.variant.addressPins

/-- What stands in an area: the board's map, or the 16 KBytes on the chip (R97, R100). -/
def State.areaMap (s : State) (area : Area) : AreaMap :=
  match area with
  | .mem0 => s.platform.mem0
  | .mem1 => s.platform.mem1
  | .mem2 => s.platform.mem2
  | .iram => { wrap := 0, ranges := [{ first := 0, last := 0x3FFF, writable := true }] }
  | .mem3 => s.platform.mem3

/-- The offset in its area that an address has on the bus: that of the address bits that leave the chip (R98, R100). -/
def State.busOffset (s : State) (a : Word) : Nat := (a.toNat - (areaOf a).base) % s.platform.visibleSize s.bus.mcr (areaOf a)

/-- The cell an address reaches: its offset on the bus modulo what the board decodes in the area (R98); modulo 0 is the offset itself. -/
def State.cellOf (s : State) (a : Word) : Nat := (areaOf a).base + s.busOffset a % (s.areaMap (areaOf a)).wrap

/-- The populated range an address reaches, if any (R97). -/
def State.rangeOf (s : State) (a : Word) : Option MemRange :=
  let off := s.cellOf a - (areaOf a).base
  (s.areaMap (areaOf a)).ranges.find? fun r => decide (r.first ≤ off) && decide (off ≤ r.last)

/-- The byte at an address, none where nothing is connected (R97). -/
def State.byteAt (s : State) (a : Word) : Option Byte :=
  (s.rangeOf a).map fun _ => Memory.get s.lost.blank s.mem (s.cellOf a)

/-- The address can be written: something is connected and it is no ROM (R97, D2). -/
def State.writable (s : State) (a : Word) : Bool :=
  match s.rangeOf a with
  | some r => r.writable
  | none => false

/-! ## What the MCR says about an area (10_state R72, R73) -/

/-- The MEMxBusSize field of an external area. -/
def busSize (mcr : Word) : Area → BitVec 2
  | .mem0 => mcr.extractLsb' 0 2
  | .mem1 => mcr.extractLsb' 2 2
  | .mem2 => mcr.extractLsb' 4 2
  | .mem3 => mcr.extractLsb' 6 2
  | .iram => 0

/-- The number of an external area's parity line and of its MCR parity bit, counted from bit 28 (R72, R102). -/
def Area.parityIndex : Area → Option Nat
  | .mem0 => some 0
  | .mem1 => some 1
  | .mem2 => some 2
  | .mem3 => some 3
  | .iram => none

/-- MEM0 is SDRAM: MCR(21) = 0, MCR(22) = 0, MCR(15) = 1 (R73, R99). -/
def isSdram (mcr : Word) : Bool := !mcr.getLsbD 21 && !mcr.getLsbD 22 && mcr.getLsbD 15

/-- The reserved DRAM type: MCR(21) = 0, MCR(22) = 0, MCR(15) = 0 (R73, 93 U53). -/
def isReservedDram (mcr : Word) : Bool := !mcr.getLsbD 21 && !mcr.getLsbD 22 && !mcr.getLsbD 15

/-- MEM0 is DRAM of any type (R72), whose content a RESET# and a sleep lose (70 R583, 61 R544). -/
def isDram (mcr : Word) : Bool := !mcr.getLsbD 21

/-- The address is a configuration access to SDRAM (R99). -/
def isSdramConfig (mcr a : Word) : Bool := areaOf a == .mem0 && isSdram mcr && a.getLsbD 29

/-- The data bus of the part has the width that a bus size code asks for: 32 bits, code 00, only on the E1-32XS (70 R584). -/
def Variant.hasBusSize (v : Variant) (code : BitVec 2) : Bool :=
  match v with
  | .e1_32xs _ => true
  | .e1_16xs _ => code != 0#2

/-- Why an access to the area is refused, if it is (93 U52, U53, 70 R584; log 24). -/
def State.areaRefusal (s : State) (area : Area) : Option Refusal :=
  if area = .iram then none
  else if busSize s.bus.mcr area = 1#2 then some .busSizeReserved
  else if !s.platform.variant.hasBusSize (busSize s.bus.mcr area) then some .busSizeUnusable
  else if area = .mem0 && isReservedDram s.bus.mcr then some .dramTypeReserved
  else none

/-! ## Sizes (R93, R104) -/

/-- The data sizes of one access. -/
inductive Size where
  | byte | half | word
  deriving DecidableEq, Repr

/-- The address without the low bits that the size ignores (R93). -/
def Size.align (z : Size) (a : Word) : Word :=
  match z with
  | .byte => a
  | .half => a &&& 0xFFFFFFFE
  | .word => a &&& 0xFFFFFFFC

/-- Bytes of the size. -/
def Size.bytes : Size → Nat
  | .byte => 1
  | .half => 2
  | .word => 4

/-- Byte k of a value of the size, byte 0 the high-order one (R92). -/
def Size.byteOf (z : Size) (v : Word) (k : Nat) : Byte := v.extractLsb' (8 * (z.bytes - 1 - k)) 8

/-- The value whose bytes from the high-order one on are `b 0`, `b 1`, ... (R92). -/
def Size.join (z : Size) (b : Nat → Byte) : Word :=
  match z with
  | .byte => (b 0).setWidth 32
  | .half => (b 0 ++ b 1).setWidth 32
  | .word => b 0 ++ b 1 ++ b 2 ++ b 3

end Sys2Proof.Machine
end

