-- ==== Sys2Proof/Machine/Status.lean ====
section
/-! DEFINITION. Machine/Status.lean: the status register as one word (spec/10_state.md R26, R27), the condition flags as a group, and the
conditions of branches, traps and SETxx (30_encoding R154). -/

namespace Sys2Proof.Machine

/-- The SR as a 32-bit word (R26). -/
def StatusReg.toWord (r : StatusReg) : Word :=
  r.fp ++ r.fl ++ r.ilc ++ BitVec.ofBool r.s ++ BitVec.ofBool r.p ++ BitVec.ofBool r.t ++ BitVec.ofBool r.l ++ r.frm ++ r.fte
    ++ BitVec.ofBool r.i ++ BitVec.ofBool r.r6 ++ BitVec.ofBool r.h ++ BitVec.ofBool r.m ++ BitVec.ofBool r.v ++ BitVec.ofBool r.n
    ++ BitVec.ofBool r.z ++ BitVec.ofBool r.c

/-- The SR that a word holds, all 32 bits (R26). -/
def StatusReg.ofWord (w : Word) : StatusReg :=
  { c := w.getLsbD 0, z := w.getLsbD 1, n := w.getLsbD 2, v := w.getLsbD 3, m := w.getLsbD 4, h := w.getLsbD 5,
    r6 := w.getLsbD 6, i := w.getLsbD 7, fte := w.extractLsb' 8 5, frm := w.extractLsb' 13 2, l := w.getLsbD 15,
    t := w.getLsbD 16, p := w.getLsbD 17, s := w.getLsbD 18, ilc := w.extractLsb' 19 2, fl := w.extractLsb' 21 4,
    fp := w.extractLsb' 25 7 }

/-- A result placed in the SR: bits 15..0 of it replace bits 15..0, bits 31..16 remain (R27). -/
def StatusReg.setLow (r : StatusReg) (w : Word) : StatusReg :=
  let q := StatusReg.ofWord w
  { q with t := r.t, p := r.p, s := r.s, ilc := r.ilc, fl := r.fl, fp := r.fp }

/-- FLi: the frame length with 0 read as 16 (R43). -/
def frameLen (fl : BitVec 4) : Nat := if fl = 0#4 then 16 else fl.toNat

/-- The four condition flags. -/
structure Flags where
  c : Bool
  z : Bool
  n : Bool
  v : Bool
  deriving DecidableEq, Repr

/-- The condition flags as they stand. -/
def StatusReg.flags (r : StatusReg) : Flags := { c := r.c, z := r.z, n := r.n, v := r.v }

/-- Replace the condition flags. -/
def StatusReg.setFlags (r : StatusReg) (f : Flags) : StatusReg := { r with c := f.c, z := f.z, n := f.n, v := f.v }

/-- The conditions (30_encoding R154). -/
inductive Cond where
  | v | nv | e | ne | c | nc | se | ht | n | nn | le | gt | always
  deriving DecidableEq, Repr

/-- Whether a condition is met by the flags (R154, 45 R351). -/
def Cond.holds (k : Cond) (f : Flags) : Bool :=
  match k with
  | .v => f.v
  | .nv => !f.v
  | .e => f.z
  | .ne => !f.z
  | .c => f.c
  | .nc => !f.c
  | .se => f.c || f.z
  | .ht => !f.c && !f.z
  | .n => f.n
  | .nn => !f.n
  | .le => f.n || f.z
  | .gt => !f.n && !f.z
  | .always => true

end Sys2Proof.Machine
end

