-- ==== Sys2Proof/Machine/Ops.lean ====
section
/-! DEFINITION. Machine/Ops.lean: the named operations that the meanings share: free values, registers by number, memory, stack and I/O
accesses, branches, the entry tables, taking an exception and its return half, and the frame every instruction runs in. -/

namespace Sys2Proof.Machine

/-! ## Outcomes -/

/-- An outcome of a part of a step. -/
abbrev Out (α : Type) := Host.Outcome α Fault Refusal

/-- Go on with the answer of a part; a fault or refusal ends the step. -/
def andThen {α β : Type} (x : Out α) (f : α → Out β) : Out β :=
  match x with
  | .next a => f a
  | .fault r => .fault r
  | .refused r => .refused r

/-- Refuse where a reason is given. -/
def unlessRefused (r : Option Refusal) (s : State) : Out State :=
  match r with
  | none => .next s
  | some x => .refused x

/-! ## Free values (92 D7, log 6) -/

/-- The next free value. -/
def State.fresh (s : State) : Word := Config.freeWord s.draws

/-- A further free value, `k` places after the next one. -/
def State.freshAt (s : State) (k : Nat) : Word := Config.freeWord (s.draws + k)

/-- `k` free values have been drawn. -/
def State.drawn (s : State) (k : Nat) : State := { s with draws := s.draws + k }

/-! ## Local registers (10_state R60, R61) -/

/-- The absolute number of the local register at FP + k (R60). -/
def State.localIndex (s : State) (k : Nat) : Fin 64 := ⟨(s.sr.fp.toNat + k) % 64, Nat.mod_lt _ (by decide)⟩

/-- The local register at FP + k. -/
def State.readLocal (s : State) (k : Nat) : Word := s.locals[s.localIndex k]

/-- Write the local register at FP + k. -/
def State.writeLocal (s : State) (k : Nat) (v : Word) : State := { s with locals := s.locals.set (s.localIndex k) v }

/-- The absolute local register that a stack address names: bits 7..2 (20_memory R112). -/
def stackIndex (a : Word) : Fin 64 := (a.extractLsb' 2 6).toFin

/-- The local register with the absolute number of a stack address. -/
def State.readAbsolute (s : State) (a : Word) : Word := s.locals[stackIndex a]

/-- Write it. -/
def State.writeAbsolute (s : State) (a v : Word) : State := { s with locals := s.locals.set (stackIndex a) v }

/-! ## G2..G15 -/

/-- The entry of G(code) in `g`, for codes from 2 on. -/
def globalIndex (code : BitVec 4) : Fin 14 := ⟨(code.toNat - 2) % 14, Nat.mod_lt _ (by decide)⟩

/-- Read G2..G15. -/
def State.readGlobal (s : State) (code : BitVec 4) : Word := s.g[globalIndex code]

/-- Write G2..G15. -/
def State.writeGlobal (s : State) (code : BitVec 4) (v : Word) : State := { s with g := s.g.set (globalIndex code) v }

/-! ## The status register -/

/-- Replace the condition flags (10_state R28 to R31). -/
def State.setFlags (s : State) (f : Flags) : State := { s with sr := s.sr.setFlags f }

/-- The condition flags. -/
def State.flags (s : State) : Flags := s.sr.flags

/-- A result placed in the SR, with whether it is a Privilege Error: in user state L may not go from 0 to 1 (10_state R27, R38, 41 R244; D9: written
first). -/
def State.writeSr (s : State) (v : Word) : State × Bool :=
  ({ s with sr := s.sr.setLow v }, !s.sr.s && !s.sr.l && v.getLsbD 15)

/-! ## Memory (20_memory R97 to R107, R120) -/

/-- The parity check of an external area is enabled and the environment signals an error on its reads (10_state R72, 60 R476); parity is not
available with SDRAM (R102). -/
def State.parityHit (s : State) (area : Area) : Bool :=
  match area.parityIndex with
  | some k => !(area == .mem0 && isSdram s.bus.mcr) && !s.bus.mcr.getLsbD (28 + k) && s.parityLines.getLsbD k
  | none => false

/-- The byte a read of address `a` delivers; where nothing is connected, byte 0 of the free value `k` places on (D2). -/
def State.readByte (s : State) (a : Word) (k : Nat) : Byte :=
  match s.byteAt a with
  | some b => b
  | none => (s.freshAt k).extractLsb' 0 8

/-- Something is connected at every byte of the access. -/
def State.connected (s : State) (z : Size) (a : Word) : Bool :=
  (List.range z.bytes).all fun k => (s.byteAt (a + BitVec.ofNat 32 k)).isSome

/-- Why a read is refused, if it is (93 U20, U52, U53, 70 R584). -/
def State.readRefusal (s : State) (a : Word) : Option Refusal :=
  match s.areaRefusal (areaOf a) with
  | some r => some r
  | none => if isSdramConfig s.bus.mcr a then some .sdramConfigRead else none

/-- The state after a read: the free values used and a parity error noted (R97, R102). -/
def State.afterRead (s : State) (z : Size) (a : Word) : State :=
  { s with
    draws := if s.connected z (z.align a) then s.draws else s.draws + 4
    parityPending := s.parityPending || s.parityHit (areaOf a) }

/-- The value at an address: its bytes, high-order first, zero-expanded to a word (R92, R104). -/
def State.valueAt (s : State) (z : Size) (a : Word) : Word :=
  z.join fun k => s.readByte (z.align a + BitVec.ofNat 32 k) k

/-- MemRead(a, size) (R104). -/
def State.memRead (s : State) (z : Size) (a : Word) : Out (Word × State) :=
  match s.readRefusal a with
  | some r => .refused r
  | none => .next (s.valueAt z a, s.afterRead z a)

/-- Store one byte, where something writable is connected (R97, D2). -/
def State.writeByte (s : State) (a : Word) (b : Byte) : State :=
  if s.writable a then { s with mem := Memory.set s.lost.blank s.mem (s.cellOf a) b } else s

/-- Store the bytes of a value (R92, R104). -/
def State.writeBytes (s : State) (z : Size) (a v : Word) : State :=
  (List.range z.bytes).foldl (fun t k => t.writeByte (a + BitVec.ofNat 32 k) (z.byteOf v k)) s

/-- A data store (R93, R104); the instruction cache does not see it (R120). -/
def State.store (s : State) (z : Size) (a v : Word) : State := s.writeBytes z (z.align a) v

/-- A configuration write to SDRAM: address bit 28 = 1 sets the SDCR, 0 the mode register, from the address (R99, 10_state R74). -/
def State.sdramConfig (s : State) (a : Word) : State :=
  if a.getLsbD 28 then { s with bus := { s.bus with sdcr := a } } else { s with bus := { s.bus with sdramMode := a } }

/-- MemWrite(a, size, v) (R99, R104); a configuration write has the address that the size's access has (R93; log 15). -/
def State.memWrite (s : State) (z : Size) (a v : Word) : Out State :=
  match s.areaRefusal (areaOf a) with
  | some r => .refused r
  | none => if isSdramConfig s.bus.mcr a then .next (s.sdramConfig (z.align a)) else .next (s.store z a v)

/-- Base and effective address lie on the same side of an IRAM boundary, otherwise refused (R100, 93 U21). -/
def iramRefusal (base a : Word) : Option Refusal :=
  if (areaOf base == .iram) == (areaOf a == .iram) then none else some .iramBoundary

/-! ## The stack address mode (20_memory R112) -/

/-- StackRead(A): memory below SP, otherwise a local register. -/
def State.stackRead (s : State) (a : Word) : Out (Word × State) :=
  if a < s.sp then s.memRead .word a else .next (s.readAbsolute a, s)

/-- StackWrite(A, v). -/
def State.stackWrite (s : State) (a v : Word) : Out State :=
  if a < s.sp then s.memWrite .word a v else .next (s.writeAbsolute a v)

/-! ## The I/O address space (20_memory R108 to R110) -/

/-- What an I/O address reaches. -/
inductive IoTarget where
  | device | powerDown | sleep | undefined
  deriving DecidableEq, Repr

/-- Bit 27 = 1 is internal; bits 25, 24, 23 = 1 with bit 22 = 0 name power-down, with bit 22 = 1 sleep (R110). -/
def ioTarget (a : Word) : IoTarget :=
  if !a.getLsbD 27 then .device
  else if a.getLsbD 25 && a.getLsbD 24 && a.getLsbD 23 then (if a.getLsbD 22 then .sleep else .powerDown)
  else .undefined

/-- IORead(a): a device answers to the address that it sees on the pins; the dummy load from an internal address loads any value (R108 to R110,
93 U22; log 28). -/
def State.ioRead (s : State) (a : Word) : Out (Word × State) :=
  let b := Size.word.align a
  match ioTarget b with
  | .device => .next (Config.ioRead s.ioLog (s.platform.variant.onPins b), { s with ioLog := .read (s.platform.variant.onPins b) :: s.ioLog })
  | .undefined => .refused .ioInternal
  | _ => .next (s.fresh, s.drawn 1)

/-- IOWrite(a, v): a device takes it, with the address on the pins, or the power state changes (R108 to R110, 61 R540, R543; log 28). -/
def State.ioWrite (s : State) (a v : Word) : Out State :=
  let b := Size.word.align a
  match ioTarget b with
  | .device => .next { s with ioLog := .write (s.platform.variant.onPins b) v :: s.ioLog }
  | .powerDown => .next { s with power := .powerDown }
  | .sleep => .next { s with power := .sleep }
  | .undefined => .refused .ioInternal

/-! ## Branches taken (45 R350) -/

/-- Bit zero of the PC is always zero (10_state R22). -/
def evenAddress (a : Word) : Word := a &&& 0xFFFFFFFE

/-- The effects of every branch taken but the cache's: the PC, and an ILC that is any value from now on (R350, 93 U6). -/
def State.jump (s : State) (target : Word) : State :=
  { s with
    pc := evenAddress target
    sr := { s.sr with ilc := s.fresh.extractLsb' 0 2 }
    draws := s.draws + 1 }

/-- A branch taken that flushes the cache and clears M (R350, 20_memory R118). -/
def State.branchTo (s : State) (target : Word) : State :=
  { (s.jump target) with sr := { (s.jump target).sr with m := false }, cache := s.cache.flush target }

/-! ## Entry tables (60 R465 to R468, 47 R431) -/

/-- MCR(14..12), EntryTableMap. -/
def entryTableMap (mcr : Word) : BitVec 3 := mcr.extractLsb' 12 3

/-- The first address of the mapped area, none for a reserved code (R468). -/
def entryTableBase (mcr : Word) : Option Word :=
  match entryTableMap mcr with
  | 0#3 => some 0x00000000
  | 1#3 => some 0x40000000
  | 2#3 => some 0x80000000
  | 3#3 => some 0xC0000000
  | _ => none

/-- The entry address of trap number t: FFFF FF00 + 4 t in MEM3, else base + 4 (63 - t) (R465, R466). -/
def trapEntry (mcr : Word) (t : BitVec 6) : Out Word :=
  if entryTableMap mcr = 7#3 then .next (0xFFFFFF00 + 4 * t.setWidth 32)
  else match entryTableBase mcr with
    | some b => .next (b + 4 * (63 - t.setWidth 32))
    | none => .refused .entryTableReserved

/-- The entry address of the Software instruction with OP(11..8) = k: FFFF FE00 + 16 k in MEM3, else base + 10C + 16 (15 - k) (47 R431). -/
def softwareEntry (mcr : Word) (k : BitVec 4) : Out Word :=
  if entryTableMap mcr = 7#3 then .next (0xFFFFFE00 + 16 * k.setWidth 32)
  else match entryTableBase mcr with
    | some b => .next (b + 0x10C + 16 * (15 - k.setWidth 32))
    | none => .refused .entryTableReserved

/-! ## Taking an exception (60 R470 to R472) and the trap sequence (45 R367) -/

/-- A return address with the S flag in bit 0 (R470). -/
def returnWord (ret : Word) (s : Bool) : Word := evenAddress ret ||| (BitVec.ofBool s).setWidth 32

/-- The part of the entry sequences that saves PC and SR at FP + `at`, opens a new frame there and clears M and H (R470, 45 R361, R367;
H: D21). -/
def State.openFrame (s : State) (k : Nat) (ret : Word) (oldSr : StatusReg) (fl : BitVec 4) : State :=
  let s1 := (s.writeLocal k (returnWord ret oldSr.s)).writeLocal (k + 1) oldSr.toWord
  { s1 with sr := { s1.sr with fp := s.sr.fp + BitVec.ofNat 7 k, fl := fl, m := false, h := false } }

/-- The entry sequence of an exception with entry address `entry` (R470): saved PC and SR, a new frame of length 2, T = 0, L = 1, S = 1, I = 1
at an interrupt. The ILC stays (R472). -/
def State.enterException (s : State) (entry ret : Word) (interrupt : Bool) : State :=
  let s1 := s.openFrame (frameLen s.sr.fl) ret s.sr 2
  { s1 with
    pc := evenAddress entry
    sr := { s1.sr with t := false, l := true, s := true, i := s1.sr.i || interrupt }
    delay := .none
    callLockout := false
    cache := s.cache.flush entry }

/-- Take the exception of trap number `t` with saved PC `ret` (R470). -/
def State.takeException (s : State) (t : BitVec 6) (ret : Word) (interrupt : Bool) : Out State :=
  andThen (trapEntry s.bus.mcr t) fun entry => .next (s.enterException entry ret interrupt)

/-- The four error exceptions share trap number 60 (60 R461, R474). -/
def errorTrap : BitVec 6 := 60

/-- The trap sequence (45 R367): like the exception's, with FL = 6 and the SR given as old SR; I stays. -/
def State.enterTrap (s : State) (entry : Word) (oldSr : StatusReg) : State :=
  let s1 := s.openFrame (frameLen s.sr.fl) s.pc oldSr 6
  let s2 : State := { s1 with sr := { s1.sr with t := false, l := true, s := true } }
  s2.branchTo entry

/-! ## Return from an exception, trap or subprogram (45 R380, R381) -/

/-- The SR that a Return restores: Rsf but ILC = 0 and S from bit 0 of Rs (R380). -/
def returnedSr (a b : Word) : StatusReg := { StatusReg.ofWord b with ilc := 0, s := a.getLsbD 0 }

/-- The Privilege Error test of a Return (R380, R381). -/
def returnFault (old new : StatusReg) : Bool := (!old.s && new.s) || (!new.s && !old.l && new.l)

/-- PC and SR restored; the cache is flushed (R380, 20_memory R118). -/
def State.restore (s : State) (a b : Word) : State :=
  { s with pc := evenAddress a, sr := returnedSr a b, cache := s.cache.flush a }

/-! ## The frame of every instruction (00_scope R10) -/

/-- The instruction begins: P is set (95 §2.3, log 44); the PC is advanced and the ILC set, but for the delay instruction of a delayed branch
taken (45 R358). -/
def State.begin (s : State) (len : Nat) : State :=
  match s.delay with
  | .taken _ => { s with sr := { s.sr with p := true } }
  | _ => { s with pc := s.pc + BitVec.ofNat 32 (2 * len), sr := { s.sr with p := true, ilc := BitVec.ofNat 2 len } }

/-- What the instruction leaves behind whatever it does: H cleared, the delay and lockout states over (10_state R32, R65, R66). -/
def State.retire (s : State) : State :=
  { s with sr := { s.sr with h := false }, delay := .none, callLockout := false }

/-- The saved PC of an error exception: the delay instruction's address after a delayed branch taken, otherwise the PC (60 R471). -/
def errorReturn (before : Delay) (pc : Word) : Word :=
  match before with
  | .taken slot => slot
  | _ => pc

/-- After the delay instruction of a delayed branch taken the ILC is invalid: any value (45 R359, 93 U6). -/
def State.settle (s : State) (before : Delay) : State :=
  match before with
  | .taken _ => { s with sr := { s.sr with ilc := s.fresh.extractLsb' 0 2 }, draws := s.draws + 1 }
  | _ => s

/-- The end of an instruction: its error exception, if it raised one, otherwise the next state (60 R474, R480). -/
def finish (before : Delay) (out : Out (State × Bool)) : Out State :=
  andThen out fun (s, error) =>
    if error then s.takeException errorTrap (errorReturn before s.pc) false else .next (s.settle before)

/-- Why an instruction is refused before it begins: a global register code under H = 1 (93 U4), or what must not stand in a delay slot
(93 U36, U37). -/
def State.frameRefusal (s : State) (len : Nat) (global branches : Bool) : Option Refusal :=
  if s.sr.h && global then some .highGlobal
  else match s.delay with
    | .none => none
    | _ =>
      if branches then some .branchInDelaySlot
      else if s.sr.ilc.toNat + len > 3 then some .delayPairTooLong
      else none

/-- An instruction of `len` half-words that does `body`: `global` where it decodes a global register code that H = 1 makes meaningless,
`branches` where it must not be a delay instruction. `body` gets the state to read operands from (the SR with P set and the instruction's own
ILC, H as it was: 10_state R62, D10, D21) and the state to write to; it answers the new state and whether an error exception was raised. -/
def instruction (len : Nat) (global branches : Bool) (s : State) (body : State → State → Out (State × Bool)) : Out State :=
  match s.frameRefusal len global branches with
  | some r => .refused r
  | none =>
    let r := s.begin len
    finish s.delay (body r r.retire)

/-- The state with no error raised. -/
def done (s : State) : Out (State × Bool) := .next (s, false)

end Sys2Proof.Machine
end

