-- ==== Sys2Proof/Machine/Devices.lean ====
section
/-! DEFINITION. Machine/Devices.lean: the high global registers G16..G31 and the devices behind them: timer, IO3 control modes, watchdog, pins,
interrupt requests (spec/10_state.md R48 to R59, R72, 61_timer_power_bus.md, 60_exceptions.md R478). -/

namespace Sys2Proof.Machine

/-! ## Pins (61 R537, 10_state R56) -/

/-- FCR(13..12), the IO3 control mode (61 R530). -/
def io3Mode (fcr : Word) : BitVec 2 := fcr.extractLsb' 12 2

/-- The level at an I/O pin whose direction, polarity and mask bits are FCR(d), FCR(d-1), FCR(d-2): the environment's as input, the
polarity as output; with mask 0 on output, any level (61 R537, 93 U54; log 25). -/
def ioLevel (fcr : Word) (d : Nat) (pin free : Bool) : Bool :=
  if fcr.getLsbD d then pin else if fcr.getLsbD (d - 2) then fcr.getLsbD (d - 1) else free

/-- The level at IO3: in IO3Timing mode as output the toggle latch against the polarity (61 R534). -/
def State.io3Level (s : State) (free : Bool) : Bool :=
  if io3Mode s.fcr = 1#2 && !s.fcr.getLsbD 10 then s.io3.toggleLatch ^^ s.fcr.getLsbD 9
  else ioLevel s.fcr 10 s.pins.io3 free

/-- G25, the input status register (10_state R56); `free` supplies the levels that the spec leaves open. -/
def State.isr (s : State) (free : Word) : Word :=
  (0#21 : BitVec 21) ++ BitVec.ofBool s.clockOnFlag ++ BitVec.ofBool s.watchdogFlag ++ BitVec.ofBool s.io3.eventFlag
    ++ BitVec.ofBool s.io3.equalFlag ++ BitVec.ofBool (s.io3Level (free.getLsbD 2))
    ++ BitVec.ofBool (ioLevel s.fcr 6 s.pins.io2 (free.getLsbD 1)) ++ BitVec.ofBool (ioLevel s.fcr 2 s.pins.io1 (free.getLsbD 0))
    ++ BitVec.ofBool s.pins.int4 ++ BitVec.ofBool s.pins.int3 ++ BitVec.ofBool s.pins.int2 ++ BitVec.ofBool s.pins.int1

/-! ## The high global registers (10_state R20, R59) -/

/-- Read G(16 + code): the write-only registers give any value (93 U7), the reserved ones are refused (93 U5). -/
def State.readHigh (s : State) (code : BitVec 4) : Out (Word × State) :=
  match code.toNat with
  | 2 => .next (s.sp, s)
  | 3 => .next (s.ub, s)
  | 4 | 5 | 10 | 11 => .next (s.fresh, s.drawn 1)
  | 6 => .next (s.timer.tcr, s)
  | 7 => .next (s.timer.tr, s)
  | 8 => .next (s.io3.wcr.setWidth 32, s)
  | 9 => .next (s.isr s.fresh, s.drawn 1)
  | _ => .refused .reservedRegister

/-- A move to the TPR (61 R522). -/
def Timer.writeTpr (t : Timer) (v : Word) : Timer :=
  if v.getLsbD 31 then { t with tprPending := some v } else { t with tpr := v, prescaler := 0 }

/-- EqualFlag and EventFlag cleared (61 R531). -/
def Io3.clearFlags (u : Io3) : Io3 := { u with eventFlag := false, equalFlag := false }

/-- A move to the WCR: bits 15..0, and both flags cleared (10_state R55, 61 R531). -/
def Io3.writeWcr (u : Io3) (v : Word) : Io3 := { u.clearFlags with wcr := v.extractLsb' 0 16, equalSeen := false }

/-- A move to the FCR: bit 13 = 1 clears both flags and the toggle latch, bit 16 = 1 a pended Extended Overflow (10_state R57). -/
def State.writeFcr (s : State) (v : Word) : State :=
  { s with
    fcr := v
    io3 := if v.getLsbD 13 then { s.io3.clearFlags with toggleLatch := false } else s.io3
    eovPending := s.eovPending && !v.getLsbD 16 }

/-- Write G(16 + code) with the register's side effects (41 R243); the read-only ISR stays as it is (93 U8 with ISR_WRITE = ignore; DESIGN CHOICE,
log 13); SP and UB take all 32 bits as given, though software must keep bits 1..0 zero (R48, R49; DESIGN CHOICE, log 54); the reserved registers
are refused (93 U5). -/
def State.writeHigh (s : State) (code : BitVec 4) (v : Word) : Out State :=
  match code.toNat with
  | 2 => .next { s with sp := v }
  | 3 => .next { s with ub := v }
  | 4 => .next { s with bus := { s.bus with bcr := v } }
  | 5 => .next { s with timer := s.timer.writeTpr v }
  | 6 => .next { s with timer := { s.timer with tcr := v } }
  | 7 => .next { s with timer := { s.timer with tr := v } }
  | 8 => .next { s with io3 := s.io3.writeWcr v }
  | 9 => .next s
  | 10 => .next (s.writeFcr v)
  | 11 => .next { s with bus := { s.bus with mcr := v } }
  | _ => .refused .reservedRegister

/-! ## The timer and the IO3 unit (61 R520 to R535) -/

/-- Processor cycles in a time unit: TPR(23..16) + 2 (61 R521). -/
def timeUnit (tpr : Word) : Nat := (tpr.extractLsb' 16 8).toNat + 2

/-- One processor cycle; at the end of the time unit TR counts and a waiting TPR takes effect (61 R521, R522). -/
def Timer.cycle (t : Timer) : Timer :=
  if t.prescaler + 1 < timeUnit t.tpr then { t with prescaler := t.prescaler + 1 }
  else { t with prescaler := 0, tr := t.tr + 1, tpr := t.tprPending.getD t.tpr, tprPending := none }

/-- WCR(15..0) = TR(15..0) (61 R525). -/
def State.wcrEqual (s : State) : Bool := s.io3.wcr == s.timer.tr.extractLsb' 0 16

/-- IO3Timing mode as input: the event captures TR, or the equality is flagged (61 R533). -/
def State.io3Input (s : State) : State :=
  if s.io3.eventFlag then s
  else if s.pins.io3 == s.fcr.getLsbD 9 then
    { s with io3 := { s.io3 with eventFlag := true, wcr := s.timer.tr.extractLsb' 0 16 } }
  else if s.wcrEqual then { s with io3 := { s.io3 with equalFlag := true } }
  else s

/-- IO3Timing mode as output: the equality is flagged, and the latch toggles once for it (61 R534; log 30). -/
def State.io3Output (s : State) : State :=
  if s.wcrEqual then
    { s with
      io3 := { s.io3 with
        equalFlag := true, equalSeen := true
        toggleLatch := if s.io3.equalSeen then s.io3.toggleLatch else !s.io3.toggleLatch } }
  else { s with io3 := { s.io3 with equalSeen := false } }

/-- The IO3 unit looks at its inputs, by mode (61 R530 to R535). -/
def State.io3Sample (s : State) : State :=
  match (io3Mode s.fcr).toNat with
  | 1 => if s.fcr.getLsbD 10 then { s.io3Input with io3 := { s.io3Input.io3 with equalSeen := false } } else s.io3Output
  | 0 => { s with io3 := { s.io3 with equalFlag := s.io3.equalFlag || s.wcrEqual, equalSeen := false } }
  | _ => { s with io3 := { s.io3 with equalSeen := false } }

/-- The watchdog fires (61 R527). -/
def State.watchdogDue (s : State) : Bool := io3Mode s.fcr == 2#2 && s.wcrEqual

/-- `k` processor cycles of the devices, with whether the watchdog fired in one of them. -/
def State.clockCycles : Nat → State → State × Bool
  | 0, s => (s, false)
  | k + 1, s =>
    let t := ({ s with timer := s.timer.cycle } : State).io3Sample
    let rest := State.clockCycles k t
    (rest.1, t.watchdogDue || rest.2)

/-- The devices during a step of `k` cycles: they look at what the instruction left, then count. -/
def State.clock (s : State) (k : Nat) : State × Bool :=
  let t := s.io3Sample
  let rest := t.clockCycles k
  (rest.1, t.watchdogDue || rest.2)

/-! ## Interrupt requests (60 R478) -/

/-- The sources of Interrupt exceptions. -/
inductive IntSource where
  | io3 | timer | int1 | int2 | int3 | int4 | io1 | io2
  deriving DecidableEq, Repr

/-- The trap number of a source (R461). -/
def IntSource.trap : IntSource → BitVec 6
  | .timer => 55
  | .io3 => 54
  | .int1 => 53
  | .int2 => 52
  | .int3 => 51
  | .int4 => 50
  | .io1 => 49
  | .io2 => 48

/-- A pin requests: its mask bit is 0 and its level equals its polarity bit (R478). -/
def pinRequest (fcr : Word) (mask polarity : Nat) (level : Bool) : Bool := !fcr.getLsbD mask && (level == fcr.getLsbD polarity)

/-- The standard request of IO3: an input, as for IO1 and IO2 (R478). -/
def State.io3Standard (s : State) : Bool := s.fcr.getLsbD 10 && pinRequest s.fcr 8 9 s.pins.io3

/-- The request of the IO3 source, by mode (R478). -/
def State.io3Request (s : State) : Bool :=
  match (io3Mode s.fcr).toNat with
  | 1 => !s.fcr.getLsbD 8 && (s.io3.eventFlag || s.io3.equalFlag)
  | 0 => s.io3.equalFlag || s.io3Standard
  | _ => s.io3Standard

/-- The timer requests: enabled and TR - TCR not negative (R478, 61 R523, D17). -/
def State.timerRequest (s : State) : Bool := !s.fcr.getLsbD 23 && !(s.timer.tr - s.timer.tcr).getLsbD 31

/-- Whether the request of a source is active (R478). -/
def State.requests (s : State) : IntSource → Bool
  | .int1 => pinRequest s.fcr 28 24 s.pins.int1
  | .int2 => pinRequest s.fcr 29 25 s.pins.int2
  | .int3 => pinRequest s.fcr 30 26 s.pins.int3
  | .int4 => pinRequest s.fcr 31 27 s.pins.int4
  | .io1 => s.fcr.getLsbD 2 && pinRequest s.fcr 0 1 s.pins.io1
  | .io2 => s.fcr.getLsbD 6 && pinRequest s.fcr 4 5 s.pins.io2
  | .io3 => s.io3Request
  | .timer => s.timerRequest

/-- The sources from the highest priority on; the timer's place is FCR(21..20) (R461, R462). -/
def intOrder (fcr : Word) : List IntSource :=
  let at_ (k : BitVec 2) : List IntSource := if fcr.extractLsb' 20 2 = k then [.timer] else []
  [.io3] ++ at_ 3 ++ [.int1] ++ at_ 2 ++ [.int2] ++ at_ 1 ++ [.int3] ++ at_ 0 ++ [.int4, .io1, .io2]

/-- The active request of the highest priority (R477). -/
def State.interrupt (s : State) : Option IntSource := (intOrder s.fcr).find? fun x => s.requests x

/-- The request of IO3 as an input pin: the standard one, or in IO3Timing mode the event that was captured (R478, 61 R533); an EqualFlag
set before does not count, since it is no request of the pin (DEDUCED, log 32). -/
def State.io3PinRequest (s : State) : Bool :=
  s.io3Standard || (s.fcr.getLsbD 10 && io3Mode s.fcr == 1#2 && !s.fcr.getLsbD 8 && s.io3.eventFlag)

/-- A pin interrupt request that wakes the processor from sleep: INT1..INT4, IO1..IO3 as input (61 R544). -/
def State.pinWake (s : State) : Bool :=
  s.requests .int1 || s.requests .int2 || s.requests .int3 || s.requests .int4 || s.requests .io1 || s.requests .io2 || s.io3PinRequest

end Sys2Proof.Machine
end

