-- ==== Sys2Proof/Machine/Boundary.lean ====
section
/-! DEFINITION. Machine/Boundary.lean: the Reset exception of a running machine (60_exceptions R473, 70 R581, 10_state R76) and what is examined at
an instruction boundary (60 R480). -/

namespace Sys2Proof.Machine

/-! ## Reset -/

/-- The three causes of a Reset exception (70 R580). -/
inductive ResetCause where
  | pin | watchdog | clockDown
  deriving DecidableEq, Repr

/-- The width that the boot pins of the part select: on the E1-16XS 8 bits or 16 (70 R584). -/
def Variant.bootWidth : Variant → BootWidth
  | .e1_32xs boot => boot
  | .e1_16xs bootb => if bootb then .w8 else .w16

/-- The MCR after reset: all ones but MEM3BusSize, from the boot pins (10_state R72). -/
def resetMcr : BootWidth → Word
  | .w8 => 0xFFFFFFFF
  | .w16 => 0xFFFFFFBF
  | .w32 => 0xFFFFFF3F

/-- The SR after reset, from an undefined word: S = L = 1, T = M = H = 0, FL = 2 (10_state R76, R77). -/
def resetSr (free : Word) : StatusReg :=
  { StatusReg.ofWord free with s := true, l := true, t := false, m := false, h := false, fl := 2 }

/-- The timer after reset: the TPR is preserved by the watchdog's, TR and TCR are undefined (10_state R76). -/
def Timer.afterReset (t : Timer) (c : ResetCause) (tr tcr : Word) : Timer :=
  match c with
  | .watchdog => { t with tr := tr, tcr := tcr }
  | _ => { tpr := 0x0C000000, tprPending := none, tcr := tcr, tr := tr, prescaler := 0 }

/-- The FCR after reset: all ones, preserved by the clock-down reset (10_state R57, R76). -/
def fcrAfterReset (fcr : Word) (c : ResetCause) : Word :=
  match c with
  | .clockDown => fcr
  | _ => 0xFFFFFFFF

/-- The IO3 unit after reset: FCR(13) = 1 clears flags and latch; after the clock-down reset they are not stated (10_state R76). -/
def io3AfterReset (c : ResetCause) (wcr free : Word) : Io3 :=
  match c with
  | .clockDown =>
    { wcr := wcr.extractLsb' 0 16, eventFlag := free.getLsbD 0, equalFlag := free.getLsbD 1, toggleLatch := free.getLsbD 2,
      equalSeen := false }
  | _ => { wcr := wcr.extractLsb' 0 16, eventFlag := false, equalFlag := false, toggleLatch := false, equalSeen := false }

/-- The reset leaves the memory on the chip, and MEM0 as DRAM, with undefined content: that of the RESET# pin, out of sleep or not, and that
out of sleep (70 R583, 61 R544); for the watchdog's nothing is stated, and it keeps them (log 33). -/
def ResetCause.losesMemory (c : ResetCause) : Bool := c != .watchdog

/-- The cells whose content such a reset loses: those on the chip, and MEM0 where it is DRAM (70 R583, 61 R544). -/
def lostCell (mcr : Word) (cell : Nat) : Bool := inIram cell || (isDram mcr && inMem0 cell)

/-- Memory after reset: what is lost is listed no more. -/
def memAfterReset (m : List Host.Cell) (mcr : Word) (c : ResetCause) : List Host.Cell :=
  if c.losesMemory then m.filter fun x => !lostCell mcr x.1 else m

/-- The losses after reset: what the cells then read as is any value (log 33). -/
def Losses.afterReset (l : Losses) (mcr : Word) (c : ResetCause) : Losses :=
  if c.losesMemory then { iram := l.iram + 1, mem0 := if isDram mcr then l.mem0 + 1 else l.mem0 } else l

/-- The Reset exception: the state as the first instruction at the Reset entry is fetched (10_state R76, 60 R473). What is undefined there is a
free value (log 33); no store is outstanding in the pipeline, so none is lost (R69, 70 R581; DESIGN CHOICE, log 55). -/
def State.resetException (s : State) (c : ResetCause) : State :=
  { pc := 0xFFFFFFF8
    sr := resetSr (s.freshAt 0)
    g := Vector.ofFn fun i => s.freshAt (1 + i.val)
    locals := Vector.ofFn fun i => s.freshAt (15 + i.val)
    sp := s.freshAt 79
    ub := s.freshAt 80
    fcr := fcrAfterReset s.fcr c
    timer := s.timer.afterReset c (s.freshAt 81) (s.freshAt 82)
    io3 := io3AfterReset c (s.freshAt 83) (s.freshAt 84)
    bus := { bcr := 0xFFFFFFFF, mcr := resetMcr s.platform.variant.bootWidth, sdcr := 0xFFFFFFFF, sdramMode := s.bus.sdramMode }
    clockOnFlag := c == .clockDown
    watchdogFlag := c == .watchdog
    eovPending := false
    parityPending := false
    delay := .none
    callLockout := false
    power := .running
    mem := memAfterReset s.mem s.bus.mcr c
    lost := s.lost.afterReset s.bus.mcr c
    cache := s.cache.flush 0xFFFFFFF8
    pins := s.pins
    parityLines := s.parityLines
    schedule := s.schedule
    platform := s.platform
    ioLog := s.ioLog
    draws := s.draws + 85 }

/-! ## The boundary (60 R480) -/

/-- Extended Overflow, Parity Error and Interrupt, in this order, where L = 0 (60 R475 to R477, R480 (5)). -/
def State.asynchronous (s : State) : Option (Out State) :=
  if s.sr.l then none
  else if s.eovPending then some (({ s with eovPending := false } : State).takeException 59 s.pc false)
  else if s.parityPending then some (({ s with parityPending := false } : State).takeException 58 s.pc false)
  else match s.interrupt with
    | some x => some (s.takeException x.trap s.pc true)
    | none => none

/-- The Trace exception (60 R479, R480 (6)); L does not block it. -/
def State.trace (s : State) : Out State := if s.sr.t && s.sr.p then s.takeException 57 s.pc false else .next s

/-- An active interrupt request ends power-down, whatever L (61 R541, D26). -/
def State.wakened (s : State) : State := if s.power = .powerDown ∧ s.interrupt ≠ none then { s with power := .running } else s

/-- What is taken between two instructions: nothing while a delay instruction is outstanding or right after a Call (60 R480 (3) to (7)), and nothing
in sleep (61 R544). The store that enters power-down is an instruction like the others; an exception other than an interrupt is then entered and
leaves the processor in power-down (61 R541; log 32). -/
def State.boundary (s : State) : Out State :=
  if s.power = .sleep ∨ s.delay ≠ .none ∨ s.callLockout = true then .next s
  else match s.wakened.asynchronous with
    | some x => x
    | none => s.wakened.trace

/-- The devices run for the step's cycles, then the watchdog's Reset or the boundary (60 R480, 61 R527). -/
def State.elapse (s : State) (cycles : Nat) : Out State :=
  if (s.clock cycles).2 then .next ((s.clock cycles).1.resetException .watchdog) else (s.clock cycles).1.boundary

end Sys2Proof.Machine
end

