-- ==== Sys2Proof/Machine/Flags.lean ====
section
/-! DEFINITION. Machine/Flags.lean: every flag computation of the spec (42 R250, 43 R304, R305, 44 R322, 41 R230). -/

namespace Sys2Proof.Machine

/-- A value outside the signed range of `w` bits. -/
def outsideSigned (w : Nat) (x : Int) : Bool := decide (x < -(2 ^ (w - 1) : Int)) || decide (x > 2 ^ (w - 1) - 1)

/-- The carry out of a + b + c (42 R250). -/
def addCarry (a b : Word) (c : Bool) : Bool := decide (a.toNat + b.toNat + c.toNat ≥ 2 ^ 32)

/-- The signed overflow of a + b + c (42 R250). -/
def addOverflow (a b : Word) (c : Bool) : Bool := outsideSigned 32 (a.toInt + b.toInt + c.toNat)

/-- The borrow of a - b - c (42 R250). -/
def subBorrow (a b : Word) (c : Bool) : Bool := decide (a.toNat < b.toNat + c.toNat)

/-- The signed overflow of a - b - c (42 R250). -/
def subOverflow (a b : Word) (c : Bool) : Bool := outsideSigned 32 (a.toInt - b.toInt - c.toNat)

/-- c as a word. -/
def bitWord (c : Bool) : Word := (BitVec.ofBool c).setWidth 32

/-- Flags of a + b + c with result r: Z, N, V, C (42 R250, R251). -/
def addFlags (a b : Word) (c : Bool) : Flags :=
  let r := a + b + bitWord c
  { c := addCarry a b c, z := r == 0, n := r.msb, v := addOverflow a b c }

/-- Flags of a - b - c: Z, N, V, C = borrow (42 R250, R259). -/
def subFlags (a b : Word) (c : Bool) : Flags :=
  let r := a - b - bitWord c
  { c := subBorrow a b c, z := r == 0, n := r.msb, v := subOverflow a b c }

/-- Flags of a comparison of a with b: as a - b, but N is the true sign (44 R322). -/
def compareFlags (a b : Word) : Flags :=
  { c := decide (a.toNat < b.toNat), z := a == b, n := decide (a.toInt < b.toInt), v := subOverflow a b false }

/-- The flags with C as it was: the S variants (42 R252). -/
def keepCarry (f old : Flags) : Flags := { f with c := old.c }

/-- The flags with a sticky Z: ADDC, SUBC (42 R253, R261). -/
def stickyZero (f old : Flags) : Flags := { f with z := old.z && f.z }

/-- Z alone from a result (41 §3). -/
def zeroOnly (r : Word) (old : Flags) : Flags := { old with z := r == 0 }

/-- Z and N from a single-word result, V as given: the moves (41 R231, R232). -/
def moveFlags (r : Word) (v : Bool) (old : Flags) : Flags := { old with z := r == 0, n := r.msb, v := v }

/-- Z and N from a double-word result, V as given: MOVD (41 R233). -/
def moveFlags64 (r : BitVec 64) (v : Bool) (old : Flags) : Flags := { old with z := r == 0, n := r.msb, v := v }

/-- V of a shift left by k: a bit shifted out differs from the new top bit, that is, x * 2^k does not fit (43 R304). -/
def shiftLeftOverflow {w : Nat} (x : BitVec w) (k : Nat) : Bool := outsideSigned w (x.toInt * 2 ^ k)

/-- Flags of a shift left; C, undefined, as given (43 R304). -/
def shiftLeftFlags {w : Nat} (x : BitVec w) (k : Nat) (c : Bool) : Flags :=
  let r := x <<< k
  { c := c, z := r == 0, n := r.msb, v := shiftLeftOverflow x k }

/-- C of a shift right by k: the last bit shifted out, 0 for k = 0 (43 R305, D16). -/
def shiftRightCarry {w : Nat} (x : BitVec w) (k : Nat) : Bool := if k = 0 then false else x.getLsbD (k - 1)

/-- Flags of a shift right of x by k with result r; V stays (43 R305). -/
def shiftRightFlags {w : Nat} (x r : BitVec w) (k : Nat) (old : Flags) : Flags :=
  { c := shiftRightCarry x k, z := r == 0, n := r.msb, v := old.v }

/-- A free value for an undefined flag: bit 0 of the next free value (D7). -/
def State.freeV (s : State) : Bool := s.fresh.getLsbD 0

/-- A free value for an undefined C: bit 1 of the next free value (D7). -/
def State.freeC (s : State) : Bool := s.fresh.getLsbD 1

/-- A free value for an undefined Z. -/
def State.freeZ (s : State) : Bool := s.fresh.getLsbD 2

/-- A free value for an undefined N. -/
def State.freeN (s : State) : Bool := s.fresh.getLsbD 3

end Sys2Proof.Machine
end

