-- ==== Sys2Proof/Machine/Operands.lean ====
section
/-! DEFINITION. Machine/Operands.lean: the operand forms (spec/10_state.md R60 to R63, 30_encoding R139 to R145): registers and their followers,
immediates, constants, displacements, and how a result reaches its destination. -/

namespace Sys2Proof.Machine

/-! ## Registers with H = 0 -/

/-- What a register operand or its follower names: the local register at FP + k, the PC, the SR, or one of G2..G15. -/
inductive Slot where
  | loc (k : Nat)
  | pc
  | sr
  | glob (code : BitVec 4)
  deriving DecidableEq, Repr

/-- The register itself (R62). -/
def regSlot : Reg → Slot
  | .l c => .loc c.toNat
  | .g c => if c = 0#4 then .pc else if c = 1#4 then .sr else .glob c

/-- The register following it (R61); none for G15 (93 U5). -/
def followSlot : Reg → Option Slot
  | .l c => some (.loc (c.toNat + 1))
  | .g c => if c = 0#4 then some .sr else if c = 15#4 then none else some (.glob (c + 1))

/-- Read a register (R23, R62). -/
def State.readSlot (s : State) : Slot → Word
  | .loc k => s.readLocal k
  | .pc => s.pc
  | .sr => s.sr.toWord
  | .glob c => s.readGlobal c

/-- Write a register without any side effect; of the SR only bits 15..0 (R27). -/
def State.writeSlot (s : State) (v : Word) : Slot → State
  | .loc k => s.writeLocal k v
  | .pc => { s with pc := evenAddress v }
  | .sr => (s.writeSr v).1
  | .glob c => s.writeGlobal c v

/-- Read a register operand. -/
def State.readReg (s : State) (r : Reg) : Word := s.readSlot (regSlot r)

/-- Go on with the following register; refused where there is none (93 U5). -/
def withFollower {α : Type} (r : Reg) (f : Slot → Out α) : Out α :=
  match followSlot r with
  | some x => f x
  | none => .refused .reservedRegister

/-- C as an operand (42 R269). -/
def carryWord (s : State) : Word := (BitVec.ofBool s.sr.c).setWidth 32

/-- A source operand where the SR code means the carry flag (R63, 42 R269). -/
def State.readAddend (s : State) (rs : Reg) : Word := if rs.isSr then carryWord s else s.readReg rs

/-- The source of a store, where the SR code means zero (40 R177). -/
def State.readStored (s : State) (rs : Reg) : Word := if rs.isSr then 0 else s.readReg rs

/-! ## Results -/

/-- A result and its flags reach Rd: the SR takes bits 15..0 instead of the flags (R27, 41 R244); the PC is refused (R24, 93 U12). -/
def State.writeResult (s : State) (rd : Reg) (v : Word) (f : Flags) : Out (State × Bool) :=
  match regSlot rd with
  | .loc k => done ((s.writeLocal k v).setFlags f)
  | .glob c => done ((s.writeGlobal c v).setFlags f)
  | .sr => .next (s.writeSr v)
  | .pc => .refused .pcDestination

/-- A result of an instruction that may name the PC: there it is an implicit branch (R24, 45 R353). -/
def State.writeOrBranch (s : State) (rd : Reg) (v : Word) (f : Flags) : Out (State × Bool) :=
  if rd.isPc then done ((s.setFlags f).branchTo v) else s.writeResult rd v f

/-- A double-word result reaches Rd//Rdf, the high-order word first (R61). -/
def State.writePair (s : State) (rd : Reg) (hi lo : Word) (f : Flags) : Out (State × Bool) :=
  withFollower rd fun rdf =>
    andThen (s.writeResult rd hi f) fun (t, error) => .next (t.writeSlot lo rdf, error)

/-! ## Immediates and constants -/

/-- The value of an immediate without further half-words, by n (30 R145); n = 31 is given. -/
def shortImm (n : BitVec 5) (last : Word) : Word :=
  match n.toNat with
  | 20 => 0x20
  | 21 => 0x40
  | 22 => 0x80
  | 23 => 0x80000000
  | 24 => 0xFFFFFFF8
  | 25 => 0xFFFFFFF9
  | 26 => 0xFFFFFFFA
  | 27 => 0xFFFFFFFB
  | 28 => 0xFFFFFFFC
  | 29 => 0xFFFFFFFD
  | 30 => 0xFFFFFFFE
  | 31 => last
  | k => BitVec.ofNat 32 k

/-- The value of an immediate with what n = 31 stands for (30 R145). -/
def immWith (last : Word) : Imm → Word
  | .short n => shortImm n last
  | .word v => v
  | .low v => v.setWidth 32
  | .high v => 0xFFFF#16 ++ v

/-- imm of CMPI, MOVI, ADDI, ADDSI, ORI, XORI: n = 31 is -1 (R145). -/
def immValue (i : Imm) : Word := immWith 0xFFFFFFFF i

/-- imm of CMPBI and ANDNI: n = 31 is 2^31 - 1 (R145). -/
def immMaskValue (i : Imm) : Word := immWith 0x7FFFFFFF i

/-- Half-words of a Rimm instruction (R150). -/
def immLength : Imm → Nat
  | .short _ => 1
  | .word _ => 3
  | .low _ => 2
  | .high _ => 2

/-- The value of const (30 R140). -/
def constValue : Const → Word
  | .short v => v.signExtend 32
  | .long v => v.signExtend 32

/-- Half-words of an instruction with const (R150). -/
def constLength : Const → Nat
  | .short _ => 2
  | .long _ => 3

/-- The value of lim (30 R144). -/
def limValue : Lim → Word
  | .short v => v.setWidth 32
  | .long v => v.setWidth 32

/-- Half-words of an instruction with lim (R150). -/
def limLength : Lim → Nat
  | .short _ => 2
  | .long _ => 3

/-- disE of a byte access (40 R171). -/
def disBValue : DisB → Word
  | .short v => v.signExtend 32
  | .long v => v.signExtend 32

/-- disE of a half-word access: dis with bit 0 zero (40 R171). -/
def disHValue : DisH → Word
  | .short v => (v ++ 0#1).signExtend 32
  | .long v => (v ++ 0#1).signExtend 32

/-- disE of a word, double-word, I/O or stack access: dis with bits 1..0 zero (40 R171). -/
def disWValue : DisW → Word
  | .short v => (v ++ 0#2).signExtend 32
  | .long v => (v ++ 0#2).signExtend 32

/-- Half-words of an instruction with a displacement (R150). -/
def disBLength : DisB → Nat
  | .short _ => 2
  | .long _ => 3

/-- Half-words of an instruction with a displacement (R150). -/
def disHLength : DisH → Nat
  | .short _ => 2
  | .long _ => 3

/-- Half-words of an instruction with a displacement (R150). -/
def disWLength : DisW → Nat
  | .short _ => 2
  | .long _ => 3

/-- rel in bytes (30 R139). -/
def relValue : Rel → Word
  | .short v => (v ++ 0#1).signExtend 32
  | .long v => (v ++ 0#1).signExtend 32

/-- Half-words of a PC-relative branch (R150). -/
def relLength : Rel → Nat
  | .short _ => 1
  | .long _ => 2

end Sys2Proof.Machine
end

