-- ==== Sys2Proof/Machine/Alu.lean ====
section
/-! DEFINITION. Machine/Alu.lean: the shapes that register instructions share: compute a result and its flags from the operands, then write
them (00_scope R10, R11: operands are read before any result is written). -/

namespace Sys2Proof.Machine

/-- What an instruction computes: the result, the flags after it, and whether it raises a Range Error. -/
structure AluResult where
  value : Word
  flags : Flags
  error : Bool := false
  deriving DecidableEq, Repr

/-- What a double-word instruction computes. -/
structure AluPair where
  hi : Word
  lo : Word
  flags : Flags
  error : Bool := false
  deriving DecidableEq, Repr

/-- A result to Rd, which must not be the PC; `k` free values are used. -/
def compute (len : Nat) (global : Bool) (rd : Reg) (k : Nat) (s : State) (f : State → AluResult) : Out State :=
  instruction len global false s fun r w =>
    andThen ((w.drawn k).writeResult rd (f r).value (f r).flags) fun (t, error) => .next (t, error || (f r).error)

/-- A result to Rd, where the PC makes an implicit branch (45 R353). -/
def computeOrBranch (len : Nat) (global : Bool) (rd : Reg) (k : Nat) (s : State) (f : State → AluResult) : Out State :=
  instruction len global rd.isPc s fun r w => (w.drawn k).writeOrBranch rd (f r).value (f r).flags

/-- A double-word result to Rd//Rdf; `k` free values are used. -/
def computePair (global : Bool) (rd : Reg) (k : Nat) (s : State) (f : State → Slot → AluPair) : Out State :=
  instruction 1 global false s fun r w =>
    withFollower rd fun rdf =>
      andThen ((w.drawn k).writePair rd (f r rdf).hi (f r rdf).lo (f r rdf).flags) fun (t, error) =>
        .next (t, error || (f r rdf).error)

/-- Only the flags are written: the compare instructions. -/
def computeFlags (len : Nat) (global : Bool) (s : State) (f : State → Flags) : Out State :=
  instruction len global false s fun r w => done (w.setFlags (f r))

/-- Nothing is written; an error may be raised: the check instructions. -/
def check (global : Bool) (s : State) (f : State → Bool) : Out State :=
  instruction 1 global false s fun r w => .next (w, f r)

/-- One of two operands is a global code. -/
def eitherGlobal (rd rs : Reg) : Bool := rd.isGlobal || rs.isGlobal

/-- A bitwise instruction: Z only (41 §3). -/
def logical (len : Nat) (global : Bool) (rd : Reg) (s : State) (f : State → Word) : Out State :=
  compute len global rd 0 s fun r => { value := f r, flags := zeroOnly (f r) r.flags }

end Sys2Proof.Machine
end

