-- ==== Sys2Proof/Machine/Arithmetic.lean ====
section
/-! DEFINITION. Machine/Arithmetic.lean: add, sum, subtract, negate, multiply and divide (spec/42_arithmetic.md). -/

namespace Sys2Proof.Machine

/-! ## Add and sum -/

/-- ADD (R251). -/
def execAdd (rd rs : Reg) (s : State) : Out State :=
  computeOrBranch 1 (eitherGlobal rd rs) rd 0 s fun r =>
    { value := r.readReg rd + r.readAddend rs, flags := addFlags (r.readReg rd) (r.readAddend rs) false }

/-- An addition that traps on overflow and leaves C (R252, R255, R258). -/
def addTrapping (a b : Word) (old : Flags) : AluResult :=
  { value := a + b, flags := keepCarry (addFlags a b false) old, error := addOverflow a b false }

/-- ADDS (R252). -/
def execAdds (rd rs : Reg) (s : State) : Out State :=
  compute 1 (eitherGlobal rd rs) rd 0 s fun r => addTrapping (r.readReg rd) (r.readAddend rs) r.flags

/-- The carry-in of ADDC and SUBC: C, but not where the SR code already stands for C (R253, R261, R269). -/
def carryIn (r : State) (rs : Reg) : Bool := !rs.isSr && r.sr.c

/-- ADDC (R253). -/
def execAddc (rd rs : Reg) (s : State) : Out State :=
  compute 1 (eitherGlobal rd rs) rd 0 s fun r =>
    { value := r.readReg rd + r.readAddend rs + bitWord (carryIn r rs)
      flags := stickyZero (addFlags (r.readReg rd) (r.readAddend rs) (carryIn r rs)) r.flags }

/-- ADDI with n ≠ 0 (R254). -/
def execAddi (rd : Reg) (imm : Imm) (s : State) : Out State :=
  computeOrBranch (immLength imm) rd.isGlobal rd 0 s fun r =>
    { value := r.readReg rd + immValue imm, flags := addFlags (r.readReg rd) (immValue imm) false }

/-- ADDSI with n ≠ 0 (R255). -/
def execAddsi (rd : Reg) (imm : Imm) (s : State) : Out State :=
  compute (immLength imm) rd.isGlobal rd 0 s fun r => addTrapping (r.readReg rd) (immValue imm) r.flags

/-- The operand CZ, round to even: C and (Z = 0 or Rd(0)) (R256). -/
def roundToEven (a : Word) (f : Flags) : Word := bitWord (f.c && (!f.z || a.getLsbD 0))

/-- ADDI Rd, CZ (R256). -/
def execAddiCz (rd : Reg) (s : State) : Out State :=
  computeOrBranch 1 rd.isGlobal rd 0 s fun r =>
    { value := r.readReg rd + roundToEven (r.readReg rd) r.flags
      flags := addFlags (r.readReg rd) (roundToEven (r.readReg rd) r.flags) false }

/-- ADDSI Rd, CZ (R256). -/
def execAddsiCz (rd : Reg) (s : State) : Out State :=
  compute 1 rd.isGlobal rd 0 s fun r => addTrapping (r.readReg rd) (roundToEven (r.readReg rd) r.flags) r.flags

/-- SUM (R257). -/
def execSum (rd rs : Reg) (const : Const) (s : State) : Out State :=
  computeOrBranch (constLength const) (eitherGlobal rd rs) rd 0 s fun r =>
    { value := r.readAddend rs + constValue const, flags := addFlags (r.readAddend rs) (constValue const) false }

/-- SUMS (R258). -/
def execSums (rd rs : Reg) (const : Const) (s : State) : Out State :=
  compute (constLength const) (eitherGlobal rd rs) rd 0 s fun r => addTrapping (r.readAddend rs) (constValue const) r.flags

/-! ## Subtract and negate -/

/-- SUB (R259). -/
def execSub (rd rs : Reg) (s : State) : Out State :=
  computeOrBranch 1 (eitherGlobal rd rs) rd 0 s fun r =>
    { value := r.readReg rd - r.readAddend rs, flags := subFlags (r.readReg rd) (r.readAddend rs) false }

/-- A subtraction that traps on overflow and leaves C (R260, R263). -/
def subTrapping (a b : Word) (old : Flags) : AluResult :=
  { value := a - b, flags := keepCarry (subFlags a b false) old, error := subOverflow a b false }

/-- SUBS (R260). -/
def execSubs (rd rs : Reg) (s : State) : Out State :=
  compute 1 (eitherGlobal rd rs) rd 0 s fun r => subTrapping (r.readReg rd) (r.readAddend rs) r.flags

/-- SUBC (R261). -/
def execSubc (rd rs : Reg) (s : State) : Out State :=
  compute 1 (eitherGlobal rd rs) rd 0 s fun r =>
    { value := r.readReg rd - (r.readAddend rs + bitWord (carryIn r rs))
      flags := stickyZero (subFlags (r.readReg rd) (r.readAddend rs) (carryIn r rs)) r.flags }

/-- NEG (R262). -/
def execNeg (rd rs : Reg) (s : State) : Out State :=
  compute 1 (eitherGlobal rd rs) rd 0 s fun r =>
    { value := 0 - r.readAddend rs, flags := subFlags 0 (r.readAddend rs) false }

/-- NEGS (R263). -/
def execNegs (rd rs : Reg) (s : State) : Out State :=
  compute 1 (eitherGlobal rd rs) rd 0 s fun r => subTrapping 0 (r.readAddend rs) r.flags

/-! ## Multiply and divide -/

/-- The PC or the SR is denoted (93 U33). -/
def denotesPcSr (rd rs : Reg) : Bool := rd.isPc || rd.isSr || rs.isPc || rs.isSr

/-- A result to Rd where everything the instruction writes is any value (93 U33): no error of its own, but the Privilege Error where the
value sets L in user state (60 R502); the PC is refused. -/
def anySingle (rd rs : Reg) (s : State) (f : State → Flags) : Out State :=
  instruction 1 (eitherGlobal rd rs) false s fun r w => (w.drawn 2).writeResult rd (r.freshAt 1) (f r)

/-- The same for Rd//Rdf (93 U33). -/
def anyPair (rd rs : Reg) (s : State) (f : State → Flags) : Out State :=
  instruction 1 (eitherGlobal rd rs) false s fun r w =>
    (w.drawn 3).writePair rd (r.freshAt 1) (r.freshAt 2) (f r)

/-- All four flags any value. -/
def State.anyFlags (r : State) : Flags := { c := r.freeC, z := r.freeZ, n := r.freeN, v := r.freeV }

/-- MUL (R264). -/
def execMul (rd rs : Reg) (s : State) : Out State :=
  if denotesPcSr rd rs then anySingle rd rs s fun r => r.anyFlags
  else compute 1 (eitherGlobal rd rs) rd 1 s fun r =>
    let p := r.readReg rd * r.readReg rs
    { value := p, flags := { c := r.freeC, z := p == 0, n := p.msb, v := r.freeV } }

/-- A double-word product with its flags; V and C undefined (R265, R266). -/
def productPair (p : BitVec 64) (r : State) : AluPair :=
  { hi := p.extractLsb' 32 32, lo := p.extractLsb' 0 32, flags := { c := r.freeC, z := p == 0, n := p.msb, v := r.freeV } }

/-- MULS (R265). -/
def execMuls (rd rs : Reg) (s : State) : Out State :=
  if denotesPcSr rd rs then anyPair rd rs s fun r => r.anyFlags
  else computePair (eitherGlobal rd rs) rd 1 s fun r _ =>
    productPair ((r.readReg rd).signExtend 64 * (r.readReg rs).signExtend 64) r

/-- MULU (R266). -/
def execMulu (rd rs : Reg) (s : State) : Out State :=
  if denotesPcSr rd rs then anyPair rd rs s fun r => r.anyFlags
  else computePair (eitherGlobal rd rs) rd 1 s fun r _ =>
    productPair ((r.readReg rd).setWidth 64 * (r.readReg rs).setWidth 64) r

/-- A division that traps: quotient, remainder, Z and N undefined, V = 1 (R267, R268). -/
def divisionTrap (r : State) : AluPair :=
  { hi := r.freshAt 1, lo := r.freshAt 2, flags := { c := r.sr.c, z := r.freeZ, n := r.freeN, v := true }, error := true }

/-- A division that completes: remainder, quotient and the flags of the quotient (R267, R268). -/
def divisionResult (rem quo : Word) (r : State) : AluPair :=
  { hi := rem, lo := quo, flags := { c := r.sr.c, z := quo == 0, n := quo.msb, v := false } }

/-- Result and flags any value (93 U33, U34). -/
def divisionAny (r : State) : AluPair :=
  { hi := r.freshAt 1, lo := r.freshAt 2, flags := { c := r.sr.c, z := r.freeZ, n := r.freeN, v := r.freeV } }

/-- The divisor lies in the dividend's registers (93 U34). -/
def divisorOverlaps (rd rs : Reg) (rdf : Slot) : Bool := regSlot rs == regSlot rd || regSlot rs == rdf

/-- What a division answers: where Rs is Rd or Rdf any value in the result and the flags, V too (93 U34), with the Range Error where the operands
call for it (log 20); otherwise the trap where it fails, or its result (R267, R268). -/
def division (overlaps fails : Bool) (rem quo : Word) (r : State) : AluPair :=
  if overlaps then { divisionAny r with error := fails }
  else if fails then divisionTrap r
  else divisionResult rem quo r

/-- DIVS traps: zero divisor, negative dividend or a quotient out of range (R267). -/
def divsFails (dividend : BitVec 64) (divisor : Word) : Bool :=
  divisor == 0 || dividend.msb || outsideSigned 32 (dividend.toInt.tdiv divisor.toInt)

/-- DIVS (R267). -/
def execDivs (rd rs : Reg) (s : State) : Out State :=
  if denotesPcSr rd rs then anyPair rd rs s fun r => (divisionAny r).flags
  else computePair (eitherGlobal rd rs) rd 3 s fun r rdf =>
    let dividend := r.readReg rd ++ r.readSlot rdf
    let divisor := r.readReg rs
    division (divisorOverlaps rd rs rdf) (divsFails dividend divisor) (BitVec.ofInt 32 (dividend.toInt.tmod divisor.toInt))
      (BitVec.ofInt 32 (dividend.toInt.tdiv divisor.toInt)) r

/-- DIVU traps: zero divisor or a quotient out of range (R268). -/
def divuFails (dividend : BitVec 64) (divisor : Word) : Bool :=
  divisor == 0 || decide (dividend.toNat / divisor.toNat > 2 ^ 32 - 1)

/-- DIVU (R268). -/
def execDivu (rd rs : Reg) (s : State) : Out State :=
  if denotesPcSr rd rs then anyPair rd rs s fun r => (divisionAny r).flags
  else computePair (eitherGlobal rd rs) rd 3 s fun r rdf =>
    let dividend := r.readReg rd ++ r.readSlot rdf
    let divisor := r.readReg rs
    division (divisorOverlaps rd rs rdf) (divuFails dividend divisor) (BitVec.ofNat 32 (dividend.toNat % divisor.toNat))
      (BitVec.ofNat 32 (dividend.toNat / divisor.toNat)) r

end Sys2Proof.Machine
end

