-- ==== Sys2Proof/Machine/Branch.lean ====
section
/-! DEFINITION. Machine/Branch.lean: branches, delayed branches, CALL, traps, FRAME, RET and FETCH
(spec/45_branch_call_trap_frame_return.md). -/

namespace Sys2Proof.Machine

/-! ## Branches (R352) and delayed branches (R355 to R360) -/

/-- The branch target counts as being in the cache, which only a branch of one half-word looks at (20_memory R116, R118). -/
def Cache.hasTarget (c : Cache) (rel : Rel) (target : Word) : Bool := relLength rel == 1 && c.reaches (relValue rel).msb target

/-- The cache after a Branch taken: as it was where it has the target, otherwise flushed (20_memory R116, R118). -/
def Cache.afterBranch (c : Cache) (rel : Rel) (target : Word) : Cache := if c.hasTarget rel target then c else c.flush target

/-- The cache after a Delayed Branch taken: as it was where it has the target, or where the branch is a forward one of one half-word and M = 1;
otherwise it is flushed as soon as the delay instruction has been fetched (20_memory R116, R118, R119; log 18). -/
def Cache.afterDelayed (c : Cache) (rel : Rel) (m : Bool) (target : Word) : Cache :=
  if c.hasTarget rel target || (relLength rel == 1 && !(relValue rel).msb && m) then c else { c with flushAfterSlot := true }

/-- A Branch instruction (R352). -/
def branch (cond : Cond) (rel : Rel) (s : State) : Out State :=
  instruction (relLength rel) false true s fun r w =>
    if cond.holds r.flags then
      done { w.branchTo (r.pc + relValue rel) with cache := w.cache.afterBranch rel (r.pc + relValue rel) }
    else done w

/-- The Branch that a Delayed Branch in a delay slot acts as (R360; log 22); it flushes the cache (20_memory R116, R118). -/
def misplacedBranch (cond : Cond) (rel : Rel) (s : State) : Out State :=
  instruction (relLength rel) false false s fun r w =>
    if cond.holds r.flags then done (w.branchTo (r.pc + relValue rel)) else done w

/-- A Delayed Branch: taken, the PC holds the target and the delay instruction's address is kept (R356); not taken, the next instruction
is a delay instruction all the same (R357); in a delay slot it is a Branch (R360). -/
def delayedBranch (cond : Cond) (rel : Rel) (s : State) : Out State :=
  if s.delay = .none then
    instruction (relLength rel) false false s fun r w =>
      if cond.holds r.flags then
        done { w with
          pc := evenAddress (r.pc + relValue rel)
          delay := .taken r.pc
          cache := w.cache.afterDelayed rel w.sr.m (r.pc + relValue rel) }
      else done { w with delay := .notTaken }
  else misplacedBranch cond rel s

/-- BV (R660). -/
def execBv (rel : Rel) (s : State) : Out State := branch .v rel s

/-- BNV (R661). -/
def execBnv (rel : Rel) (s : State) : Out State := branch .nv rel s

/-- BE (R662). -/
def execBe (rel : Rel) (s : State) : Out State := branch .e rel s

/-- BNE (R663). -/
def execBne (rel : Rel) (s : State) : Out State := branch .ne rel s

/-- BC (R664). -/
def execBc (rel : Rel) (s : State) : Out State := branch .c rel s

/-- BNC (R665). -/
def execBnc (rel : Rel) (s : State) : Out State := branch .nc rel s

/-- BSE (R666). -/
def execBse (rel : Rel) (s : State) : Out State := branch .se rel s

/-- BHT (R667). -/
def execBht (rel : Rel) (s : State) : Out State := branch .ht rel s

/-- BN (R668). -/
def execBn (rel : Rel) (s : State) : Out State := branch .n rel s

/-- BNN (R669). -/
def execBnn (rel : Rel) (s : State) : Out State := branch .nn rel s

/-- BLE (R670). -/
def execBle (rel : Rel) (s : State) : Out State := branch .le rel s

/-- BGT (R671). -/
def execBgt (rel : Rel) (s : State) : Out State := branch .gt rel s

/-- BR (R672). -/
def execBr (rel : Rel) (s : State) : Out State := branch .always rel s

/-- DBV (R673). -/
def execDbv (rel : Rel) (s : State) : Out State := delayedBranch .v rel s

/-- DBNV (R674). -/
def execDbnv (rel : Rel) (s : State) : Out State := delayedBranch .nv rel s

/-- DBE (R675). -/
def execDbe (rel : Rel) (s : State) : Out State := delayedBranch .e rel s

/-- DBNE (R676). -/
def execDbne (rel : Rel) (s : State) : Out State := delayedBranch .ne rel s

/-- DBC (R677). -/
def execDbc (rel : Rel) (s : State) : Out State := delayedBranch .c rel s

/-- DBNC (R678). -/
def execDbnc (rel : Rel) (s : State) : Out State := delayedBranch .nc rel s

/-- DBSE (R679). -/
def execDbse (rel : Rel) (s : State) : Out State := delayedBranch .se rel s

/-- DBHT (R680). -/
def execDbht (rel : Rel) (s : State) : Out State := delayedBranch .ht rel s

/-- DBN (R681). -/
def execDbn (rel : Rel) (s : State) : Out State := delayedBranch .n rel s

/-- DBNN (R682). -/
def execDbnn (rel : Rel) (s : State) : Out State := delayedBranch .nn rel s

/-- DBLE (R683). -/
def execDble (rel : Rel) (s : State) : Out State := delayedBranch .le rel s

/-- DBGT (R684). -/
def execDbgt (rel : Rel) (s : State) : Out State := delayedBranch .gt rel s

/-- DBR (R685). -/
def execDbr (rel : Rel) (s : State) : Out State := delayedBranch .always rel s

/-! ## CALL (R361 to R366) -/

/-- The frame offset that a register code names where 0 means 16 (R361). -/
def codeOr16 (code : BitVec 4) : Nat := frameLen code

/-- The target of a CALL (R361). -/
def callTarget (r : State) (rs : Reg) (const : Const) : Word :=
  if rs.isSr then constValue const else r.readReg rs + constValue const

/-- CALL (R361). -/
def execCall (ld : BitVec 4) (rs : Reg) (const : Const) (s : State) : Out State :=
  instruction (constLength const) rs.isGlobal true s fun r w =>
    done { (w.openFrame (codeOr16 ld) r.pc r.sr 6).branchTo (callTarget r rs const) with callLockout := true }

/-! ## Traps (R367 to R369) -/

/-- A Trap instruction (R367). -/
def trapIf (cond : Cond) (trapno : BitVec 6) (s : State) : Out State :=
  instruction 1 false true s fun r w =>
    if cond.holds r.flags then andThen (trapEntry w.bus.mcr trapno) fun entry => done (w.enterTrap entry r.sr)
    else done w

/-- TRAPLE (R686). -/
def execTraple (trapno : BitVec 6) (s : State) : Out State := trapIf .le trapno s

/-- TRAPGT (R687). -/
def execTrapgt (trapno : BitVec 6) (s : State) : Out State := trapIf .gt trapno s

/-- TRAPLT (R688). -/
def execTraplt (trapno : BitVec 6) (s : State) : Out State := trapIf .n trapno s

/-- TRAPGE (R689). -/
def execTrapge (trapno : BitVec 6) (s : State) : Out State := trapIf .nn trapno s

/-- TRAPSE (R690). -/
def execTrapse (trapno : BitVec 6) (s : State) : Out State := trapIf .se trapno s

/-- TRAPHT (R691). -/
def execTrapht (trapno : BitVec 6) (s : State) : Out State := trapIf .ht trapno s

/-- TRAPST (R692). -/
def execTrapst (trapno : BitVec 6) (s : State) : Out State := trapIf .c trapno s

/-- TRAPHE (R693). -/
def execTraphe (trapno : BitVec 6) (s : State) : Out State := trapIf .nc trapno s

/-- TRAPE (R694). -/
def execTrape (trapno : BitVec 6) (s : State) : Out State := trapIf .e trapno s

/-- TRAPNE (R695). -/
def execTrapne (trapno : BitVec 6) (s : State) : Out State := trapIf .ne trapno s

/-- TRAPV (R696). -/
def execTrapv (trapno : BitVec 6) (s : State) : Out State := trapIf .v trapno s

/-- TRAP (R697). -/
def execTrap (trapno : BitVec 6) (s : State) : Out State := trapIf .always trapno s

/-! ## FRAME (R370 to R372) -/

/-- The number of words a negative 7-bit difference stands for, 0 where it is not negative (R371, R382). -/
def shortfall (difference : BitVec 7) : Nat := if difference.msb then 128 - difference.toNat else 0

/-- Push `k` local registers, from the one that SP(7..2) names on (R371). -/
def State.push : Nat → State → Out State
  | 0, s => .next s
  | k + 1, s =>
    andThen (s.memWrite .word s.sp (s.readAbsolute s.sp)) fun t => State.push k { t with sp := s.sp + 4 }

/-- Available minus required registers: SP(8..2) + 54 - (FP + FLi) (R370). -/
def frameDifference (sp : Word) (fp : BitVec 7) (fl : BitVec 4) : BitVec 7 :=
  sp.extractLsb' 2 7 + 54 - (fp + BitVec.ofNat 7 (frameLen fl))

/-- FRAME (R370): the codes are numbers; Frame Error where something is pushed with SP not below UB. -/
def execFrame (ld ls : BitVec 4) (s : State) : Out State :=
  instruction 1 false false s fun _ w =>
    let t : State := { w with sr := { w.sr with fp := w.sr.fp - ls.setWidth 7, fl := ld, m := false } }
    let k := shortfall (frameDifference t.sp t.sr.fp ld)
    andThen (t.push k) fun u => .next (u, decide (0 < k) && decide (t.ub ≤ t.sp))

/-! ## RET (R380 to R382) -/

/-- Pull `k` words, from SP - 4 downward, into the local registers that their addresses name (R382). -/
def State.pull : Nat → State → Out State
  | 0, s => .next s
  | k + 1, s =>
    let a := s.sp - 4
    andThen (s.memRead .word a) fun (v, t) => State.pull k (({ t with sp := a } : State).writeAbsolute a v)

/-- RET (R380): PC and SR restored, missing words of the frame pulled, then the Privilege Error (R381, D22). The Rd field holds the PC
code, a global one. -/
def execRet (rs : Reg) (s : State) : Out State :=
  instruction 1 true true s fun r w =>
    withFollower rs fun rsf =>
      let t := w.restore (r.readReg rs) (r.readSlot rsf)
      andThen (t.pull (shortfall (t.sr.fp - t.sp.extractLsb' 2 7))) fun u => .next (u, returnFault r.sr t.sr)

/-! ## FETCH (R390) -/

/-- FETCH: no effect on the architectural state (R390); the Rd field holds the SR code, a global one; it must not be a delay instruction. -/
def execFetch (_k : BitVec 4) (s : State) : Out State := instruction 1 true true s fun _ w => done w

end Sys2Proof.Machine
end

