-- ==== Sys2Proof/Machine/ExtendedDsp.lean ====
section
/-! DEFINITION. Machine/ExtendedDsp.lean: the Extended DSP instructions (spec/46_extended_dsp.md). Exact integers, wrapped on writing (D15); every
right-hand side uses the old G14 and G15 (D23). -/

namespace Sys2Proof.Machine

/-- h(x): the signed high half-word (R400). -/
def highHalf (x : Word) : Int := (x.extractLsb' 16 16).toInt

/-- l(x): the signed low half-word (R400). -/
def lowHalf (x : Word) : Int := (x.extractLsb' 0 16).toInt

/-- The operands of an Extended DSP instruction: Ld, Ls and the old G14, G15 (R400). -/
structure DspIn where
  x : Word
  y : Word
  g14 : Word
  g15 : Word
  deriving DecidableEq, Repr

/-- What it writes to G14 and G15, and whether an add or subtract overflowed (R401, R416). -/
structure DspOut where
  g14 : Word
  g15 : Word
  overflow : Bool
  deriving DecidableEq, Repr

/-- A signed single-word result in G15 (R400, R416). -/
def dspSingle (i : DspIn) (v : Int) : DspOut := { g14 := i.g14, g15 := BitVec.ofInt 32 v, overflow := outsideSigned 32 v }

/-- A double-word result in G14//G15 (R400, R416). -/
def dspDouble (v : Int) : DspOut :=
  { g14 := (BitVec.ofInt 64 v).extractLsb' 32 32, g15 := (BitVec.ofInt 64 v).extractLsb' 0 32, overflow := outsideSigned 64 v }

/-- Two single-word results (R411, R412). -/
def dspComplex (re im : Int) : DspOut :=
  { g14 := BitVec.ofInt 32 re, g15 := BitVec.ofInt 32 im, overflow := outsideSigned 32 re || outsideSigned 32 im }

/-- Four half-word results (R413 to R415). -/
def dspHalves (a b c d : Int) : DspOut :=
  { g14 := BitVec.ofInt 16 a ++ BitVec.ofInt 16 b, g15 := BitVec.ofInt 16 c ++ BitVec.ofInt 16 d
    overflow := outsideSigned 16 a || outsideSigned 16 b || outsideSigned 16 c || outsideSigned 16 d }

/-- The accumulator G14//G15 as a signed value (R400). -/
def DspIn.acc (i : DspIn) : Int := (i.g14 ++ i.g15).toInt

/-- The signed product of the operands. -/
def DspIn.product (i : DspIn) : Int := i.x.toInt * i.y.toInt

/-- The sum of the products of the half-words (R409). -/
def DspIn.halfSum (i : DspIn) : Int := highHalf i.x * highHalf i.y + lowHalf i.x * lowHalf i.y

/-- The real part of the complex product (R411). -/
def DspIn.realPart (i : DspIn) : Int := highHalf i.x * highHalf i.y - lowHalf i.x * lowHalf i.y

/-- Its imaginary part (R411). -/
def DspIn.imagPart (i : DspIn) : Int := highHalf i.x * lowHalf i.y + lowHalf i.x * highHalf i.y

/-- G14 and G15 written; an overflow is pended where the exception is enabled, FCR(16) = 0 (R401, 60 R475, D24). -/
def State.dspWrite (s : State) (o : DspOut) (canOverflow : Bool) : State :=
  { (s.writeGlobal 14 o.g14).writeGlobal 15 o.g15 with
    eovPending := s.eovPending || (canOverflow && o.overflow && !s.fcr.getLsbD 16) }

/-- The operands (R400). -/
def State.dspIn (r : State) (ld ls : BitVec 4) : DspIn :=
  { x := r.readLocal ld.toNat, y := r.readLocal ls.toNat, g14 := r.readGlobal 14, g15 := r.readGlobal 15 }

/-- An Extended DSP instruction; EMUL, EMULU and EMULS cannot overflow (R400, R401). -/
def dsp (ld ls : BitVec 4) (canOverflow : Bool) (s : State) (f : DspIn → DspOut) : Out State :=
  instruction 2 false false s fun r w => done (w.dspWrite (f (r.dspIn ld ls)) canOverflow)

/-- EMUL (R402). -/
def execEmul (ld ls : BitVec 4) (s : State) : Out State := dsp ld ls false s fun i => dspSingle i i.product

/-- EMULU (R403). -/
def execEmulu (ld ls : BitVec 4) (s : State) : Out State := dsp ld ls false s fun i => dspDouble (i.x.toNat * i.y.toNat : Nat)

/-- EMULS (R404). -/
def execEmuls (ld ls : BitVec 4) (s : State) : Out State := dsp ld ls false s fun i => dspDouble i.product

/-- EMAC (R405). -/
def execEmac (ld ls : BitVec 4) (s : State) : Out State := dsp ld ls true s fun i => dspSingle i (i.g15.toInt + i.product)

/-- EMACD (R406). -/
def execEmacd (ld ls : BitVec 4) (s : State) : Out State := dsp ld ls true s fun i => dspDouble (i.acc + i.product)

/-- EMSUB (R407). -/
def execEmsub (ld ls : BitVec 4) (s : State) : Out State := dsp ld ls true s fun i => dspSingle i (i.g15.toInt - i.product)

/-- EMSUBD (R408). -/
def execEmsubd (ld ls : BitVec 4) (s : State) : Out State := dsp ld ls true s fun i => dspDouble (i.acc - i.product)

/-- EHMAC (R409). -/
def execEhmac (ld ls : BitVec 4) (s : State) : Out State := dsp ld ls true s fun i => dspSingle i (i.g15.toInt + i.halfSum)

/-- EHMACD (R410). -/
def execEhmacd (ld ls : BitVec 4) (s : State) : Out State := dsp ld ls true s fun i => dspDouble (i.acc + i.halfSum)

/-- EHCMULD (R411). -/
def execEhcmuld (ld ls : BitVec 4) (s : State) : Out State := dsp ld ls true s fun i => dspComplex i.realPart i.imagPart

/-- EHCMACD (R412). -/
def execEhcmacd (ld ls : BitVec 4) (s : State) : Out State :=
  dsp ld ls true s fun i => dspComplex (i.g14.toInt + i.realPart) (i.g15.toInt + i.imagPart)

/-- EHCSUMD (R413). -/
def execEhcsumd (ld ls : BitVec 4) (s : State) : Out State :=
  dsp ld ls true s fun i =>
    dspHalves (highHalf i.x + i.g14.toInt) (lowHalf i.x + i.g15.toInt) (highHalf i.x - i.g14.toInt) (lowHalf i.x - i.g15.toInt)

/-- A signed word shifted right by 15, sign bits inserted (R414, D23). -/
def adjusted (x : Word) : Int := x.toInt / 2 ^ 15

/-- EHCFFTD (R414). -/
def execEhcfftd (ld ls : BitVec 4) (s : State) : Out State :=
  dsp ld ls true s fun i =>
    dspHalves (highHalf i.x + adjusted i.g14) (lowHalf i.x + adjusted i.g15) (highHalf i.x - adjusted i.g14)
      (lowHalf i.x - adjusted i.g15)

/-- EHCFFTSD (R415): the exact sums are shifted right by one. -/
def execEhcfftsd (ld ls : BitVec 4) (s : State) : Out State :=
  dsp ld ls true s fun i =>
    dspHalves ((highHalf i.x + adjusted i.g14) / 2) ((lowHalf i.x + adjusted i.g15) / 2) ((highHalf i.x - adjusted i.g14) / 2)
      ((lowHalf i.x - adjusted i.g15) / 2)

end Sys2Proof.Machine
end

