-- ==== Sys2Proof/Machine/IndexCheckSet.lean ====
section
/-! DEFINITION. Machine/IndexCheckSet.lean: index moves, checks, NOP, compares, TESTLZ, SETADR and SETxx (spec/44_index_check_compare_set.md). -/

namespace Sys2Proof.Machine

/-! ## Index move (R310) -/

/-- The source is above the bound: higher than lim, or for the PC not lower (R310). -/
def aboveBound (v lim : Word) (isPc : Bool) : Bool := if isPc then decide (lim ≤ v) else decide (lim < v)

/-- XM with shift `sh`: the shifted source, and a Range Error above the bound (R310). -/
def indexMove (sh : Nat) (rd rs : Reg) (lim : Lim) (s : State) : Out State :=
  compute (limLength lim) (eitherGlobal rd rs) rd 0 s fun r =>
    { value := r.readReg rs <<< sh, flags := r.flags, error := aboveBound (r.readReg rs) (limValue lim) rs.isPc }

/-- XX with shift `sh`: the shifted source (R310). -/
def indexScale (sh : Nat) (rd rs : Reg) (lim : Lim) (s : State) : Out State :=
  compute (limLength lim) (eitherGlobal rd rs) rd 0 s fun r => { value := r.readReg rs <<< sh, flags := r.flags }

/-- XM1 (R311). -/
def execXm1 (rd rs : Reg) (lim : Lim) (s : State) : Out State := indexMove 0 rd rs lim s

/-- XM2 (R312). -/
def execXm2 (rd rs : Reg) (lim : Lim) (s : State) : Out State := indexMove 1 rd rs lim s

/-- XM4 (R313). -/
def execXm4 (rd rs : Reg) (lim : Lim) (s : State) : Out State := indexMove 2 rd rs lim s

/-- XM8 (R314). -/
def execXm8 (rd rs : Reg) (lim : Lim) (s : State) : Out State := indexMove 3 rd rs lim s

/-- XX1 (R315). -/
def execXx1 (rd rs : Reg) (lim : Lim) (s : State) : Out State := indexScale 0 rd rs lim s

/-- XX2 (R316). -/
def execXx2 (rd rs : Reg) (lim : Lim) (s : State) : Out State := indexScale 1 rd rs lim s

/-- XX4 (R317). -/
def execXx4 (rd rs : Reg) (lim : Lim) (s : State) : Out State := indexScale 2 rd rs lim s

/-- XX8 (R318). -/
def execXx8 (rd rs : Reg) (lim : Lim) (s : State) : Out State := indexScale 3 rd rs lim s

/-! ## Check and no operation -/

/-- CHK (R319). -/
def execChk (rd rs : Reg) (s : State) : Out State :=
  check (eitherGlobal rd rs) s fun r =>
    if rs.isPc then decide (r.readReg rs ≤ r.readReg rd) else decide (r.readReg rs < r.readReg rd)

/-- CHKZ (R320): the SR code as source is a global code. -/
def execChkz (rd : Reg) (s : State) : Out State := check true s fun r => r.readReg rd == 0

/-- NOP (R321). -/
def execNop (s : State) : Out State := check false s fun _ => false

/-! ## Compare -/

/-- CMP (R322). -/
def execCmp (rd rs : Reg) (s : State) : Out State :=
  computeFlags 1 (eitherGlobal rd rs) s fun r => compareFlags (r.readReg rd) (r.readAddend rs)

/-- CMPI (R323). -/
def execCmpi (rd : Reg) (imm : Imm) (s : State) : Out State :=
  computeFlags (immLength imm) rd.isGlobal s fun r => compareFlags (r.readReg rd) (immValue imm)

/-- CMPB (R324). -/
def execCmpb (rd rs : Reg) (s : State) : Out State :=
  computeFlags 1 (eitherGlobal rd rs) s fun r => zeroOnly (r.readReg rd &&& r.readReg rs) r.flags

/-- CMPBI with n ≠ 0 (R325). -/
def execCmpbi (rd : Reg) (imm : Imm) (s : State) : Out State :=
  computeFlags (immLength imm) rd.isGlobal s fun r => zeroOnly (r.readReg rd &&& immMaskValue imm) r.flags

/-- Some byte of the word is zero (R326). -/
def anyByteZero (v : Word) : Bool :=
  v.extractLsb' 24 8 == 0 || v.extractLsb' 16 8 == 0 || v.extractLsb' 8 8 == 0 || v.extractLsb' 0 8 == 0

/-- CMPBI Rd, ANYBZ (R326). -/
def execCmpbiAnybz (rd : Reg) (s : State) : Out State :=
  computeFlags 1 rd.isGlobal s fun r => { r.flags with z := anyByteZero (r.readReg rd) }

/-! ## Test leading zeros, set stack address -/

/-- The zero bits of v from bit k - 1 downward before the first one. -/
def leadingZeros (v : Word) : Nat → Nat
  | 0 => 0
  | k + 1 => if v.getLsbD k then 0 else leadingZeros v k + 1

/-- TESTLZ (R327). -/
def execTestlz (ld ls : BitVec 4) (s : State) : Out State :=
  compute 1 false (.l ld) 0 s fun r =>
    { value := BitVec.ofNat 32 (leadingZeros (r.readReg (.l ls)) 32), flags := r.flags }

/-- FP expanded to the stack address, with the carry into bit 9 where SP(8) = 1 and FP(6) = 0 (R328). -/
def stackAddress (sp : Word) (fp : BitVec 7) : Word :=
  (sp.extractLsb' 9 23 + (BitVec.ofBool (sp.getLsbD 8 && !fp.getLsbD 6)).setWidth 23) ++ fp ++ 0#2

/-- SETADR (R328). -/
def execSetadr (rd : Reg) (s : State) : Out State :=
  compute 1 rd.isGlobal rd 0 s fun r => { value := stackAddress r.sp r.sr.fp, flags := r.flags }

/-! ## Set conditional (R329) -/

/-- A SETxx: `yes` where the condition holds, otherwise 0; no flag changes. -/
def setIf (cond : Cond) (yes : Word) (rd : Reg) (s : State) : Out State :=
  compute 1 rd.isGlobal rd 0 s fun r => { value := if cond.holds r.flags then yes else 0, flags := r.flags }

/-- SET1 (R630). -/
def execSet1 (rd : Reg) (s : State) : Out State := setIf .always 1 rd s

/-- SET0 (R631). -/
def execSet0 (rd : Reg) (s : State) : Out State := setIf .always 0 rd s

/-- SETLE (R632). -/
def execSetle (rd : Reg) (s : State) : Out State := setIf .le 1 rd s

/-- SETGT (R633). -/
def execSetgt (rd : Reg) (s : State) : Out State := setIf .gt 1 rd s

/-- SETLT (R634). -/
def execSetlt (rd : Reg) (s : State) : Out State := setIf .n 1 rd s

/-- SETGE (R635). -/
def execSetge (rd : Reg) (s : State) : Out State := setIf .nn 1 rd s

/-- SETSE (R636). -/
def execSetse (rd : Reg) (s : State) : Out State := setIf .se 1 rd s

/-- SETHT (R637). -/
def execSetht (rd : Reg) (s : State) : Out State := setIf .ht 1 rd s

/-- SETST (R638). -/
def execSetst (rd : Reg) (s : State) : Out State := setIf .c 1 rd s

/-- SETHE (R639). -/
def execSethe (rd : Reg) (s : State) : Out State := setIf .nc 1 rd s

/-- SETE (R640). -/
def execSete (rd : Reg) (s : State) : Out State := setIf .e 1 rd s

/-- SETNE (R641). -/
def execSetne (rd : Reg) (s : State) : Out State := setIf .ne 1 rd s

/-- SETV (R642). -/
def execSetv (rd : Reg) (s : State) : Out State := setIf .v 1 rd s

/-- SETNV (R643). -/
def execSetnv (rd : Reg) (s : State) : Out State := setIf .nv 1 rd s

/-- SET1M (R644). -/
def execSet1M (rd : Reg) (s : State) : Out State := setIf .always 0xFFFFFFFF rd s

/-- SETLEM (R645). -/
def execSetleM (rd : Reg) (s : State) : Out State := setIf .le 0xFFFFFFFF rd s

/-- SETGTM (R646). -/
def execSetgtM (rd : Reg) (s : State) : Out State := setIf .gt 0xFFFFFFFF rd s

/-- SETLTM (R647). -/
def execSetltM (rd : Reg) (s : State) : Out State := setIf .n 0xFFFFFFFF rd s

/-- SETGEM (R648). -/
def execSetgeM (rd : Reg) (s : State) : Out State := setIf .nn 0xFFFFFFFF rd s

/-- SETSEM (R649). -/
def execSetseM (rd : Reg) (s : State) : Out State := setIf .se 0xFFFFFFFF rd s

/-- SETHTM (R650). -/
def execSethtM (rd : Reg) (s : State) : Out State := setIf .ht 0xFFFFFFFF rd s

/-- SETSTM (R651). -/
def execSetstM (rd : Reg) (s : State) : Out State := setIf .c 0xFFFFFFFF rd s

/-- SETHEM (R652). -/
def execSetheM (rd : Reg) (s : State) : Out State := setIf .nc 0xFFFFFFFF rd s

/-- SETEM (R653). -/
def execSeteM (rd : Reg) (s : State) : Out State := setIf .e 0xFFFFFFFF rd s

/-- SETNEM (R654). -/
def execSetneM (rd : Reg) (s : State) : Out State := setIf .ne 0xFFFFFFFF rd s

/-- SETVM (R655). -/
def execSetvM (rd : Reg) (s : State) : Out State := setIf .v 0xFFFFFFFF rd s

/-- SETNVM (R656). -/
def execSetnvM (rd : Reg) (s : State) : Out State := setIf .nv 0xFFFFFFFF rd s

end Sys2Proof.Machine
end

