-- ==== Sys2Proof/Machine/MemoryInstr.lean ====
section
/-! DEFINITION. Machine/MemoryInstr.lean: the loads and stores (spec/40_memory_instructions.md). In the manual's naming Rd or Ld is the address
register and Rs the data register, for loads and stores alike. -/

namespace Sys2Proof.Machine

/-! ## Data types (R174, R175) -/

/-- The data types of a memory access. -/
inductive DataType where
  | byteS | byteU | halfU | halfS | word | double
  deriving DecidableEq, Repr

/-- The size of one access; a double-word is two words (20_memory R104). -/
def DataType.size : DataType → Size
  | .byteS => .byte
  | .byteU => .byte
  | .halfU => .half
  | .halfS => .half
  | .word => .word
  | .double => .word

/-- A loaded value expanded to 32 bits (R184 to R189). -/
def DataType.expand (t : DataType) (v : Word) : Word :=
  match t with
  | .byteS => (v.extractLsb' 0 8).signExtend 32
  | .halfS => (v.extractLsb' 0 16).signExtend 32
  | _ => v

/-- The Range Error of a signed store (R178). -/
def DataType.storeRange (t : DataType) (v : Word) : Bool :=
  match t with
  | .byteS => outsideSigned 8 v.toInt
  | .halfS => outsideSigned 16 v.toInt
  | _ => false

/-- A second word follows. -/
def DataType.isDouble (t : DataType) : Bool := t == .double

/-- Rs, or Rsf of a double-word, is a register that cannot be loaded from memory: PC, SR, G14, G15 (R176, 93 U30). -/
def loadForbidden (t : DataType) : Reg → Bool
  | .l _ => false
  | .g c => c == 0 || c == 1 || c == 14 || c == 15 || (t.isDouble && c == 13)

/-! ## Accesses of one or two words -/

/-- Read at `a`, expanded; base and address on one side of the IRAM boundary (20_memory R100). -/
def State.loadWord (s : State) (t : DataType) (base a : Word) : Out (Word × State) :=
  match iramRefusal base a with
  | some r => .refused r
  | none => andThen (s.memRead t.size a) fun (v, u) => .next (t.expand v, u)

/-- Load Rs, or Rs//Rsf from a and a + 4 (R180 to R189). -/
def State.loadMemory (s : State) (t : DataType) (base a : Word) (rs : Reg) : Out State :=
  andThen (s.loadWord t base a) fun (v, u) =>
    if t.isDouble then
      withFollower rs fun rsf =>
        andThen (u.loadWord t base (a + 4)) fun (vf, x) => .next ((x.writeSlot v (regSlot rs)).writeSlot vf rsf)
    else .next (u.writeSlot v (regSlot rs))

/-- Write at `a`; base and address on one side of the IRAM boundary (20_memory R100). -/
def State.storeWord (s : State) (t : DataType) (base a v : Word) : Out State :=
  match iramRefusal base a with
  | some r => .refused r
  | none => s.memWrite t.size a v

/-- Store v, or v and vf at a and a + 4 (R201 to R216). -/
def State.storeMemory (s : State) (t : DataType) (base a v vf : Word) : Out State :=
  andThen (s.storeWord t base a v) fun u => if t.isDouble then u.storeWord t base (a + 4) vf else .next u

/-- Load Rs, or Rs//Rsf, from the I/O space (R190, R191). -/
def State.loadIo (s : State) (double : Bool) (a : Word) (rs : Reg) : Out State :=
  andThen (s.ioRead a) fun (v, u) =>
    if double then
      withFollower rs fun rsf =>
        andThen (u.ioRead (a + 4)) fun (vf, x) => .next ((x.writeSlot v (regSlot rs)).writeSlot vf rsf)
    else .next (u.writeSlot v (regSlot rs))

/-- Store to the I/O space (R192, R193). -/
def State.storeIo (s : State) (double : Bool) (a v vf : Word) : Out State :=
  andThen (s.ioWrite a v) fun u => if double then u.ioWrite (a + 4) vf else .next u

/-- The second word of a double-word store: the follower's value, zero where Rs denotes the SR; read from `r`, where the address register is
already incremented (R177, R179). -/
def withStoredLow {α : Type} (double : Bool) (rs : Reg) (r : State) (f : Word → Out α) : Out α :=
  if !double || rs.isSr then f 0 else withFollower rs fun rsf => f (r.readSlot rsf)

/-! ## Address modes (R175)

`base` is the address register's content as the instruction finds it, zero of which is a Pointer Error (R173); `bump` is what the mode adds
to that register, done whatever exception occurs. Loaded data written over the advanced register stays (R179, 93 U31; log 51). -/

/-- A load through an address register (R173 to R176). -/
def loadThrough (len : Nat) (global : Bool) (t : DataType) (rd rs : Reg) (dis : Word) (bump : Option Word) (s : State) : Out State :=
  instruction len global false s fun r w =>
    if loadForbidden t rs then .refused .loadDestination
    else
      let base := r.readReg rd
      let w1 := match bump with
        | some d => w.writeSlot (base + d) (regSlot rd)
        | none => w
      if base == 0 then .next (w1, true) else andThen (w1.loadMemory t base (base + dis) rs) done

/-- A store through an address register (R173, R177 to R179). -/
def storeThrough (len : Nat) (global : Bool) (t : DataType) (rd rs : Reg) (dis : Word) (bump : Option Word) (s : State) : Out State :=
  instruction len global false s fun r w =>
    let base := r.readReg rd
    let w1 := match bump with
      | some d => w.writeSlot (base + d) (regSlot rd)
      | none => w
    let r1 := match bump with
      | some d => r.writeSlot (base + d) (regSlot rd)
      | none => r
    withStoredLow t.isDouble rs r1 fun vf =>
      if base == 0 then .next (w1, true)
      else andThen (w1.storeMemory t base (base + dis) (r.readStored rs) vf) fun u => .next (u, t.storeRange (r.readStored rs))

/-- Rd must not denote the PC or the SR (R218, 93 U32; log 52); the decoder does not give such an instruction. -/
def nextOnly (rd : Reg) (x : Out State) : Out State :=
  if rd.isPc || rd.isSr then .refused (.undecodable .nextAddressPcSr) else x

/-- Displacement mode. -/
def loadDis (len : Nat) (t : DataType) (rd rs : Reg) (dis : Word) (s : State) : Out State :=
  loadThrough len (rd.isGlobal || rs.isGlobal) t rd rs dis none s

/-- Next mode: access at the old Rd, which then advances by dis. -/
def loadNext (len : Nat) (t : DataType) (rd rs : Reg) (dis : Word) (s : State) : Out State :=
  nextOnly rd (loadThrough len (rd.isGlobal || rs.isGlobal) t rd rs 0 (some dis) s)

/-- Register mode. -/
def loadReg (t : DataType) (ld : BitVec 4) (rs : Reg) (s : State) : Out State :=
  loadThrough 1 rs.isGlobal t (.l ld) rs 0 none s

/-- Post-increment mode: Ld advances by 4 or 8. -/
def loadPost (t : DataType) (ld : BitVec 4) (rs : Reg) (s : State) : Out State :=
  loadThrough 1 rs.isGlobal t (.l ld) rs 0 (some (if t.isDouble then 8 else 4)) s

/-- Absolute mode: the Rd field holds the SR code, a global one; there is no address register (R173, R175). -/
def loadAbs (len : Nat) (t : DataType) (rs : Reg) (dis : Word) (s : State) : Out State :=
  instruction len true false s fun _ w =>
    if loadForbidden t rs then .refused .loadDestination else andThen (w.loadMemory t dis dis rs) done

/-- Displacement mode, stores. -/
def storeDis (len : Nat) (t : DataType) (rd rs : Reg) (dis : Word) (s : State) : Out State :=
  storeThrough len (rd.isGlobal || rs.isGlobal) t rd rs dis none s

/-- Next mode, stores. -/
def storeNext (len : Nat) (t : DataType) (rd rs : Reg) (dis : Word) (s : State) : Out State :=
  nextOnly rd (storeThrough len (rd.isGlobal || rs.isGlobal) t rd rs 0 (some dis) s)

/-- Register mode, stores. -/
def storeReg (t : DataType) (ld : BitVec 4) (rs : Reg) (s : State) : Out State :=
  storeThrough 1 rs.isGlobal t (.l ld) rs 0 none s

/-- Post-increment mode, stores. -/
def storePost (t : DataType) (ld : BitVec 4) (rs : Reg) (s : State) : Out State :=
  storeThrough 1 rs.isGlobal t (.l ld) rs 0 (some (if t.isDouble then 8 else 4)) s

/-- Absolute mode, stores. -/
def storeAbs (len : Nat) (t : DataType) (rs : Reg) (dis : Word) (s : State) : Out State :=
  instruction len true false s fun r w =>
    withStoredLow t.isDouble rs r fun vf =>
      andThen (w.storeMemory t dis dis (r.readStored rs) vf) fun u => .next (u, t.storeRange (r.readStored rs))

/-- I/O displacement mode, loads. -/
def loadIoDis (len : Nat) (double : Bool) (rd rs : Reg) (dis : Word) (s : State) : Out State :=
  instruction len (rd.isGlobal || rs.isGlobal) false s fun r w =>
    if loadForbidden (if double then .double else .word) rs then .refused .loadDestination
    else if r.readReg rd == 0 then .next (w, true) else andThen (w.loadIo double (r.readReg rd + dis) rs) done

/-- I/O absolute mode, loads. -/
def loadIoAbs (len : Nat) (double : Bool) (rs : Reg) (dis : Word) (s : State) : Out State :=
  instruction len true false s fun _ w =>
    if loadForbidden (if double then .double else .word) rs then .refused .loadDestination else andThen (w.loadIo double dis rs) done

/-- I/O displacement mode, stores. -/
def storeIoDis (len : Nat) (double : Bool) (rd rs : Reg) (dis : Word) (s : State) : Out State :=
  instruction len (rd.isGlobal || rs.isGlobal) false s fun r w =>
    withStoredLow double rs r fun vf =>
      if r.readReg rd == 0 then .next (w, true)
      else andThen (w.storeIo double (r.readReg rd + dis) (r.readStored rs) vf) done

/-- I/O absolute mode, stores. -/
def storeIoAbs (len : Nat) (double : Bool) (rs : Reg) (dis : Word) (s : State) : Out State :=
  instruction len true false s fun r w =>
    withStoredLow double rs r fun vf => andThen (w.storeIo double dis (r.readStored rs) vf) done

/-! ## The instructions -/

/-- LDBS.D (R184). -/
def execLdbsD (rd rs : Reg) (dis : DisB) (s : State) : Out State :=
  loadDis (disBLength dis) .byteS rd rs (disBValue dis) s

/-- LDBS.A (R184). -/
def execLdbsA (rs : Reg) (dis : DisB) (s : State) : Out State :=
  loadAbs (disBLength dis) .byteS rs (disBValue dis) s

/-- LDBU.D (R185). -/
def execLdbuD (rd rs : Reg) (dis : DisB) (s : State) : Out State :=
  loadDis (disBLength dis) .byteU rd rs (disBValue dis) s

/-- LDBU.A (R185). -/
def execLdbuA (rs : Reg) (dis : DisB) (s : State) : Out State :=
  loadAbs (disBLength dis) .byteU rs (disBValue dis) s

/-- LDHU.D (R186). -/
def execLdhuD (rd rs : Reg) (dis : DisH) (s : State) : Out State :=
  loadDis (disHLength dis) .halfU rd rs (disHValue dis) s

/-- LDHU.A (R186). -/
def execLdhuA (rs : Reg) (dis : DisH) (s : State) : Out State :=
  loadAbs (disHLength dis) .halfU rs (disHValue dis) s

/-- LDHS.D (R187). -/
def execLdhsD (rd rs : Reg) (dis : DisH) (s : State) : Out State :=
  loadDis (disHLength dis) .halfS rd rs (disHValue dis) s

/-- LDHS.A (R187). -/
def execLdhsA (rs : Reg) (dis : DisH) (s : State) : Out State :=
  loadAbs (disHLength dis) .halfS rs (disHValue dis) s

/-- LDW.D (R188). -/
def execLdwD (rd rs : Reg) (dis : DisW) (s : State) : Out State :=
  loadDis (disWLength dis) .word rd rs (disWValue dis) s

/-- LDW.A (R188). -/
def execLdwA (rs : Reg) (dis : DisW) (s : State) : Out State :=
  loadAbs (disWLength dis) .word rs (disWValue dis) s

/-- LDD.D (R189). -/
def execLddD (rd rs : Reg) (dis : DisW) (s : State) : Out State :=
  loadDis (disWLength dis) .double rd rs (disWValue dis) s

/-- LDD.A (R189). -/
def execLddA (rs : Reg) (dis : DisW) (s : State) : Out State :=
  loadAbs (disWLength dis) .double rs (disWValue dis) s

/-- LDW.IOD (R190). -/
def execLdwIod (rd rs : Reg) (dis : DisW) (s : State) : Out State :=
  loadIoDis (disWLength dis) false rd rs (disWValue dis) s

/-- LDW.IOA (R190). -/
def execLdwIoa (rs : Reg) (dis : DisW) (s : State) : Out State :=
  loadIoAbs (disWLength dis) false rs (disWValue dis) s

/-- LDD.IOD (R191). -/
def execLddIod (rd rs : Reg) (dis : DisW) (s : State) : Out State :=
  loadIoDis (disWLength dis) true rd rs (disWValue dis) s

/-- LDD.IOA (R191). -/
def execLddIoa (rs : Reg) (dis : DisW) (s : State) : Out State :=
  loadIoAbs (disWLength dis) true rs (disWValue dis) s

/-- LDBS.N (R194). -/
def execLdbsN (rd rs : Reg) (dis : DisB) (s : State) : Out State :=
  loadNext (disBLength dis) .byteS rd rs (disBValue dis) s

/-- LDBU.N (R195). -/
def execLdbuN (rd rs : Reg) (dis : DisB) (s : State) : Out State :=
  loadNext (disBLength dis) .byteU rd rs (disBValue dis) s

/-- LDHU.N (R196). -/
def execLdhuN (rd rs : Reg) (dis : DisH) (s : State) : Out State :=
  loadNext (disHLength dis) .halfU rd rs (disHValue dis) s

/-- LDHS.N (R197). -/
def execLdhsN (rd rs : Reg) (dis : DisH) (s : State) : Out State :=
  loadNext (disHLength dis) .halfS rd rs (disHValue dis) s

/-- LDW.N (R198). -/
def execLdwN (rd rs : Reg) (dis : DisW) (s : State) : Out State :=
  loadNext (disWLength dis) .word rd rs (disWValue dis) s

/-- LDD.N (R199). -/
def execLddN (rd rs : Reg) (dis : DisW) (s : State) : Out State :=
  loadNext (disWLength dis) .double rd rs (disWValue dis) s

/-- LDW.S (R200). -/
def execLdwS (rd rs : Reg) (dis : DisW) (s : State) : Out State :=
  nextOnly rd (instruction (disWLength dis) (rd.isGlobal || rs.isGlobal) false s fun r w =>
    if loadForbidden .word rs then .refused .loadDestination
    else if r.readReg rd == 0 then .next (w.writeSlot (disWValue dis) (regSlot rd), true)
    else andThen (w.stackRead (r.readReg rd)) fun (v, t) =>
      done ((t.writeSlot (r.readReg rd + disWValue dis) (regSlot rd)).writeSlot v (regSlot rs)))

/-- STBS.D (R205). -/
def execStbsD (rd rs : Reg) (dis : DisB) (s : State) : Out State :=
  storeDis (disBLength dis) .byteS rd rs (disBValue dis) s

/-- STBS.A (R205). -/
def execStbsA (rs : Reg) (dis : DisB) (s : State) : Out State :=
  storeAbs (disBLength dis) .byteS rs (disBValue dis) s

/-- STBU.D (R206). -/
def execStbuD (rd rs : Reg) (dis : DisB) (s : State) : Out State :=
  storeDis (disBLength dis) .byteU rd rs (disBValue dis) s

/-- STBU.A (R206). -/
def execStbuA (rs : Reg) (dis : DisB) (s : State) : Out State :=
  storeAbs (disBLength dis) .byteU rs (disBValue dis) s

/-- STHU.D (R207). -/
def execSthuD (rd rs : Reg) (dis : DisH) (s : State) : Out State :=
  storeDis (disHLength dis) .halfU rd rs (disHValue dis) s

/-- STHU.A (R207). -/
def execSthuA (rs : Reg) (dis : DisH) (s : State) : Out State :=
  storeAbs (disHLength dis) .halfU rs (disHValue dis) s

/-- STHS.D (R208). -/
def execSthsD (rd rs : Reg) (dis : DisH) (s : State) : Out State :=
  storeDis (disHLength dis) .halfS rd rs (disHValue dis) s

/-- STHS.A (R208). -/
def execSthsA (rs : Reg) (dis : DisH) (s : State) : Out State :=
  storeAbs (disHLength dis) .halfS rs (disHValue dis) s

/-- STW.D (R209). -/
def execStwD (rd rs : Reg) (dis : DisW) (s : State) : Out State :=
  storeDis (disWLength dis) .word rd rs (disWValue dis) s

/-- STW.A (R209). -/
def execStwA (rs : Reg) (dis : DisW) (s : State) : Out State :=
  storeAbs (disWLength dis) .word rs (disWValue dis) s

/-- STD.D (R210). -/
def execStdD (rd rs : Reg) (dis : DisW) (s : State) : Out State :=
  storeDis (disWLength dis) .double rd rs (disWValue dis) s

/-- STD.A (R210). -/
def execStdA (rs : Reg) (dis : DisW) (s : State) : Out State :=
  storeAbs (disWLength dis) .double rs (disWValue dis) s

/-- STW.IOD (R192). -/
def execStwIod (rd rs : Reg) (dis : DisW) (s : State) : Out State :=
  storeIoDis (disWLength dis) false rd rs (disWValue dis) s

/-- STW.IOA (R192). -/
def execStwIoa (rs : Reg) (dis : DisW) (s : State) : Out State :=
  storeIoAbs (disWLength dis) false rs (disWValue dis) s

/-- STD.IOD (R193). -/
def execStdIod (rd rs : Reg) (dis : DisW) (s : State) : Out State :=
  storeIoDis (disWLength dis) true rd rs (disWValue dis) s

/-- STD.IOA (R193). -/
def execStdIoa (rs : Reg) (dis : DisW) (s : State) : Out State :=
  storeIoAbs (disWLength dis) true rs (disWValue dis) s

/-- STBS.N (R211). -/
def execStbsN (rd rs : Reg) (dis : DisB) (s : State) : Out State :=
  storeNext (disBLength dis) .byteS rd rs (disBValue dis) s

/-- STBU.N (R212). -/
def execStbuN (rd rs : Reg) (dis : DisB) (s : State) : Out State :=
  storeNext (disBLength dis) .byteU rd rs (disBValue dis) s

/-- STHU.N (R213). -/
def execSthuN (rd rs : Reg) (dis : DisH) (s : State) : Out State :=
  storeNext (disHLength dis) .halfU rd rs (disHValue dis) s

/-- STHS.N (R214). -/
def execSthsN (rd rs : Reg) (dis : DisH) (s : State) : Out State :=
  storeNext (disHLength dis) .halfS rd rs (disHValue dis) s

/-- STW.N (R215). -/
def execStwN (rd rs : Reg) (dis : DisW) (s : State) : Out State :=
  storeNext (disWLength dis) .word rd rs (disWValue dis) s

/-- STD.N (R216). -/
def execStdN (rd rs : Reg) (dis : DisW) (s : State) : Out State :=
  storeNext (disWLength dis) .double rd rs (disWValue dis) s

/-- STW.S (R217). -/
def execStwS (rd rs : Reg) (dis : DisW) (s : State) : Out State :=
  nextOnly rd (instruction (disWLength dis) (rd.isGlobal || rs.isGlobal) false s fun r w =>
    let t := w.writeSlot (r.readReg rd + disWValue dis) (regSlot rd)
    if r.readReg rd == 0 then .next (t, true) else andThen (t.stackWrite (r.readReg rd) (r.readStored rs)) done)

/-- LDW.R (R180). -/
def execLdwR (ld : BitVec 4) (rs : Reg) (s : State) : Out State :=
  loadReg .word ld rs s

/-- LDD.R (R181). -/
def execLddR (ld : BitVec 4) (rs : Reg) (s : State) : Out State :=
  loadReg .double ld rs s

/-- LDW.P (R182). -/
def execLdwP (ld : BitVec 4) (rs : Reg) (s : State) : Out State :=
  loadPost .word ld rs s

/-- LDD.P (R183). -/
def execLddP (ld : BitVec 4) (rs : Reg) (s : State) : Out State :=
  loadPost .double ld rs s

/-- STW.R (R201). -/
def execStwR (ld : BitVec 4) (rs : Reg) (s : State) : Out State :=
  storeReg .word ld rs s

/-- STD.R (R202). -/
def execStdR (ld : BitVec 4) (rs : Reg) (s : State) : Out State :=
  storeReg .double ld rs s

/-- STW.P (R203). -/
def execStwP (ld : BitVec 4) (rs : Reg) (s : State) : Out State :=
  storePost .word ld rs s

/-- STD.P (R204). -/
def execStdP (ld : BitVec 4) (rs : Reg) (s : State) : Out State :=
  storePost .double ld rs s

end Sys2Proof.Machine
end

