-- ==== Sys2Proof/Machine/MoveLogical.lean ====
section
/-! DEFINITION. Machine/MoveLogical.lean: MOV, MOVI, MOVD, the logical instructions and MASK (spec/41_move_logical.md). -/

namespace Sys2Proof.Machine

/-! ## Moves to and from the high global registers (R243) -/

/-- The source of a MOV with H = 1: a local register or a high global one. -/
def State.readAnyHigh (s : State) : Reg → Out (Word × State)
  | .l c => .next (s.readLocal c.toNat, s)
  | .g c => s.readHigh c

/-- The condition flags undefined (R243). -/
def State.freeFlags (s : State) : State := (s.drawn 1).setFlags { c := s.freeC, z := s.freeZ, n := s.freeN, v := s.freeV }

/-- A move with H = 1: a global destination is high and privileged; in user state it stays, the flags are undefined and Privilege Error is
raised (R243). -/
def moveHigh (len : Nat) (rd : Reg) (s : State) (read : State → Out (Word × State)) : Out State :=
  instruction len false false s fun _ w =>
    match rd with
    | .l c =>
      andThen (read w) fun (v, t) =>
        done (((t.drawn 1).writeLocal c.toNat v).setFlags (moveFlags v t.freeV t.flags))
    | .g c =>
      if w.sr.s then
        andThen (read w) fun (v, t) =>
          andThen (t.writeHigh c v) fun u => done ((u.drawn 1).setFlags (moveFlags v u.freeV u.flags))
      else .next (w.freeFlags, true)

/-! ## The moves -/

/-- MOV (R231, R243). -/
def execMov (rd rs : Reg) (s : State) : Out State :=
  if s.sr.h then moveHigh 1 rd s fun w => w.readAnyHigh rs
  else computeOrBranch 1 false rd 1 s fun r =>
    { value := r.readReg rs, flags := moveFlags (r.readReg rs) r.freeV r.flags }

/-- MOVI (R232, R243). -/
def execMovi (rd : Reg) (imm : Imm) (s : State) : Out State :=
  if s.sr.h then moveHigh (immLength imm) rd s fun w => .next (immValue imm, w)
  else computeOrBranch (immLength imm) false rd 1 s fun r =>
    { value := immValue imm, flags := moveFlags (immValue imm) r.freeV r.flags }

/-- The low-order word that MOVD copies: read after the high-order word is written (R233). -/
def movdLow (r : State) (rd rs : Reg) (rsf : Slot) : Word := (r.writeSlot (r.readReg rs) (regSlot rd)).readSlot rsf

/-- MOVD; the SR code as source means zero (R233; log 36). -/
def execMovd (rd rs : Reg) (s : State) : Out State :=
  if rs.isSr then
    computePair (eitherGlobal rd rs) rd 1 s fun r _ => { hi := 0, lo := 0, flags := moveFlags64 0 r.freeV r.flags }
  else instruction 1 (eitherGlobal rd rs) false s fun r w =>
    withFollower rs fun rsf =>
      (w.drawn 1).writePair rd (r.readReg rs) (movdLow r rd rs rsf)
        (moveFlags64 (r.readReg rs ++ movdLow r rd rs rsf) r.freeV r.flags)

/-! ## The logical instructions -/

/-- AND (R234). -/
def execAnd (rd rs : Reg) (s : State) : Out State :=
  logical 1 (eitherGlobal rd rs) rd s fun r => r.readReg rd &&& r.readReg rs

/-- ANDN (R235). -/
def execAndn (rd rs : Reg) (s : State) : Out State :=
  logical 1 (eitherGlobal rd rs) rd s fun r => r.readReg rd &&& ~~~(r.readReg rs)

/-- OR (R236). -/
def execOr (rd rs : Reg) (s : State) : Out State :=
  logical 1 (eitherGlobal rd rs) rd s fun r => r.readReg rd ||| r.readReg rs

/-- XOR (R237). -/
def execXor (rd rs : Reg) (s : State) : Out State :=
  logical 1 (eitherGlobal rd rs) rd s fun r => r.readReg rd ^^^ r.readReg rs

/-- NOT (R241). -/
def execNot (rd rs : Reg) (s : State) : Out State :=
  logical 1 (eitherGlobal rd rs) rd s fun r => ~~~(r.readReg rs)

/-- ANDNI (R238). -/
def execAndni (rd : Reg) (imm : Imm) (s : State) : Out State :=
  logical (immLength imm) rd.isGlobal rd s fun r => r.readReg rd &&& ~~~(immMaskValue imm)

/-- ORI (R239). -/
def execOri (rd : Reg) (imm : Imm) (s : State) : Out State :=
  logical (immLength imm) rd.isGlobal rd s fun r => r.readReg rd ||| immValue imm

/-- XORI (R240). -/
def execXori (rd : Reg) (imm : Imm) (s : State) : Out State :=
  logical (immLength imm) rd.isGlobal rd s fun r => r.readReg rd ^^^ immValue imm

/-- MASK (R242). -/
def execMask (rd rs : Reg) (const : Const) (s : State) : Out State :=
  logical (constLength const) (eitherGlobal rd rs) rd s fun r => r.readReg rs &&& constValue const

end Sys2Proof.Machine
end

