-- ==== Sys2Proof/Machine/Shift.lean ====
section
/-! DEFINITION. Machine/Shift.lean: the shift and rotate instructions (spec/43_shift_rotate.md). -/

namespace Sys2Proof.Machine

/-! ## Shapes -/

/-- The shift count of the register forms: bits 4..0 of Ls (R290). -/
def State.shiftCount (r : State) (ls : BitVec 4) : Nat := (r.readReg (.l ls)).toNat % 32

/-- The pair Ld//Ldf as one value, Ld the high-order word (R290). -/
def State.readLocalPair (r : State) (ld : BitVec 4) : BitVec 64 := r.readLocal ld.toNat ++ r.readLocal (ld.toNat + 1)

/-- Write the pair Ld//Ldf. -/
def State.writeLocalPair (s : State) (ld : BitVec 4) (v : BitVec 64) : State :=
  (s.writeLocal ld.toNat (v.extractLsb' 32 32)).writeLocal (ld.toNat + 1) (v.extractLsb' 0 32)

/-- Shift Left of x by k; C undefined (R304). -/
def shiftLeftWord (x : Word) (k : Nat) (r : State) : AluResult := { value := x <<< k, flags := shiftLeftFlags x k r.freeC }

/-- Shift Right of x by k with result v (R305). -/
def shiftRightWord (x v : Word) (k : Nat) (r : State) : AluResult := { value := v, flags := shiftRightFlags x v k r.flags }

/-- A shift of the pair Ld//Ldf; `j` free values are used. -/
def shiftPair (ld : BitVec 4) (j : Nat) (s : State) (value : BitVec 64 → State → BitVec 64) (flags : BitVec 64 → State → Flags) :
    Out State :=
  instruction 1 false false s fun r w =>
    let x := r.readLocalPair ld
    done (((w.drawn j).writeLocalPair ld (value x r)).setFlags (flags x r))

/-- Ls denotes the same register as Ld or Ldf (93 U35). -/
def countOverlaps (ld ls : BitVec 4) : Bool := ls == ld || decide (ls.toNat = ld.toNat + 1)

/-- Any value in Ld//Ldf and in the flags written (93 U35). -/
def anyShift (ld : BitVec 4) (s : State) (flags : State → Flags) : Out State :=
  shiftPair ld 3 s (fun _ r => r.freshAt 1 ++ r.freshAt 2) (fun _ r => flags r)

/-! ## Shift left -/

/-- SHLI (R291). -/
def execShli (rd : Reg) (n : BitVec 5) (s : State) : Out State :=
  compute 1 rd.isGlobal rd 1 s fun r => shiftLeftWord (r.readReg rd) n.toNat r

/-- SHLDI (R292). -/
def execShldi (ld : BitVec 4) (n : BitVec 5) (s : State) : Out State :=
  shiftPair ld 1 s (fun x _ => x <<< n.toNat) (fun x r => shiftLeftFlags x n.toNat r.freeC)

/-- SHL (R293). -/
def execShl (ld ls : BitVec 4) (s : State) : Out State :=
  compute 1 false (.l ld) 1 s fun r => shiftLeftWord (r.readReg (.l ld)) (r.shiftCount ls) r

/-- SHLD (R294). -/
def execShld (ld ls : BitVec 4) (s : State) : Out State :=
  if countOverlaps ld ls then anyShift ld s fun r => { c := r.freeC, z := r.freeZ, n := r.freeN, v := r.freeV }
  else shiftPair ld 1 s (fun x r => x <<< r.shiftCount ls) (fun x r => shiftLeftFlags x (r.shiftCount ls) r.freeC)

/-! ## Shift right arithmetic -/

/-- SARI (R295). -/
def execSari (rd : Reg) (n : BitVec 5) (s : State) : Out State :=
  compute 1 rd.isGlobal rd 0 s fun r => shiftRightWord (r.readReg rd) ((r.readReg rd).sshiftRight n.toNat) n.toNat r

/-- SARDI (R296). -/
def execSardi (ld : BitVec 4) (n : BitVec 5) (s : State) : Out State :=
  shiftPair ld 0 s (fun x _ => x.sshiftRight n.toNat) (fun x r => shiftRightFlags x (x.sshiftRight n.toNat) n.toNat r.flags)

/-- SAR (R297). -/
def execSar (ld ls : BitVec 4) (s : State) : Out State :=
  compute 1 false (.l ld) 0 s fun r =>
    shiftRightWord (r.readReg (.l ld)) ((r.readReg (.l ld)).sshiftRight (r.shiftCount ls)) (r.shiftCount ls) r

/-- SARD (R298). -/
def execSard (ld ls : BitVec 4) (s : State) : Out State :=
  if countOverlaps ld ls then anyShift ld s fun r => { c := r.freeC, z := r.freeZ, n := r.freeN, v := r.sr.v }
  else shiftPair ld 0 s (fun x r => x.sshiftRight (r.shiftCount ls))
    (fun x r => shiftRightFlags x (x.sshiftRight (r.shiftCount ls)) (r.shiftCount ls) r.flags)

/-! ## Shift right logical -/

/-- SHRI (R299). -/
def execShri (rd : Reg) (n : BitVec 5) (s : State) : Out State :=
  compute 1 rd.isGlobal rd 0 s fun r => shiftRightWord (r.readReg rd) (r.readReg rd >>> n.toNat) n.toNat r

/-- SHRDI (R300). -/
def execShrdi (ld : BitVec 4) (n : BitVec 5) (s : State) : Out State :=
  shiftPair ld 0 s (fun x _ => x >>> n.toNat) (fun x r => shiftRightFlags x (x >>> n.toNat) n.toNat r.flags)

/-- SHR (R301). -/
def execShr (ld ls : BitVec 4) (s : State) : Out State :=
  compute 1 false (.l ld) 0 s fun r =>
    shiftRightWord (r.readReg (.l ld)) (r.readReg (.l ld) >>> r.shiftCount ls) (r.shiftCount ls) r

/-- SHRD (R302). -/
def execShrd (ld ls : BitVec 4) (s : State) : Out State :=
  if countOverlaps ld ls then anyShift ld s fun r => { c := r.freeC, z := r.freeZ, n := r.freeN, v := r.sr.v }
  else shiftPair ld 0 s (fun x r => x >>> r.shiftCount ls)
    (fun x r => shiftRightFlags x (x >>> r.shiftCount ls) (r.shiftCount ls) r.flags)

/-! ## Rotate -/

/-- x rotated left by k, 0 ≤ k ≤ 31 (R303). -/
def rotateLeftWord (x : Word) (k : Nat) : Word := if k = 0 then x else (x <<< k) ||| (x >>> (32 - k))

/-- ROL (R303). -/
def execRol (ld ls : BitVec 4) (s : State) : Out State :=
  compute 1 false (.l ld) 1 s fun r =>
    let v := rotateLeftWord (r.readReg (.l ld)) (r.shiftCount ls)
    { value := v, flags := { c := r.freeC, z := v == 0, n := v.msb, v := r.freeV } }

end Sys2Proof.Machine
end

