-- ==== Sys2Proof/Machine/Software.lean ====
section
/-! DEFINITION. Machine/Software.lean: the Software instructions DO and floating point (spec/47_software_floating_point.md R430 to R432): the
hardware branches to the subprogram in memory (FP_MODEL = software_trap, D25; log 26). -/

namespace Sys2Proof.Machine

/-- The stack address of the local register Ld (R432; log 50). -/
def operandAddress (r : State) (ld : BitVec 4) : Word := stackAddress r.sp r.sr.fp + 4 * ld.setWidth 32

/-- The five words saved from FP + FL on: stack address of Ld, source pair, PC with S, SR (R430). -/
def State.saveSoftware (w : State) (r : State) (ld ls : BitVec 4) : State :=
  let k := frameLen r.sr.fl
  ((((w.writeLocal k (operandAddress r ld)).writeLocal (k + 1) (r.readLocal ls.toNat)).writeLocal (k + 2)
      (r.readLocal (ls.toNat + 1))).writeLocal (k + 3) (returnWord r.pc r.sr.s)).writeLocal (k + 4) r.sr.toWord

/-- The Software instruction with OP(11..8) = op (R430): a new frame of length 6, T = 0, L = 1; S and I stay. -/
def software (op : BitVec 4) (ld ls : BitVec 4) (s : State) : Out State :=
  instruction 1 false true s fun r w =>
    andThen (softwareEntry w.bus.mcr op) fun entry =>
      let t := w.saveSoftware r ld ls
      let u : State :=
        { t with sr := { t.sr with fp := t.sr.fp + BitVec.ofNat 7 (frameLen r.sr.fl), fl := 6, t := false, l := true } }
      done (u.branchTo entry)

/-- FADD (R434). -/
def execFadd (ld ls : BitVec 4) (s : State) : Out State := software 0 ld ls s

/-- FADDD (R435). -/
def execFaddd (ld ls : BitVec 4) (s : State) : Out State := software 1 ld ls s

/-- FSUB (R436). -/
def execFsub (ld ls : BitVec 4) (s : State) : Out State := software 2 ld ls s

/-- FSUBD (R437). -/
def execFsubd (ld ls : BitVec 4) (s : State) : Out State := software 3 ld ls s

/-- FMUL (R438). -/
def execFmul (ld ls : BitVec 4) (s : State) : Out State := software 4 ld ls s

/-- FMULD (R439). -/
def execFmuld (ld ls : BitVec 4) (s : State) : Out State := software 5 ld ls s

/-- FDIV (R440). -/
def execFdiv (ld ls : BitVec 4) (s : State) : Out State := software 6 ld ls s

/-- FDIVD (R441). -/
def execFdivd (ld ls : BitVec 4) (s : State) : Out State := software 7 ld ls s

/-- FCMP (R442). -/
def execFcmp (ld ls : BitVec 4) (s : State) : Out State := software 8 ld ls s

/-- FCMPD (R443). -/
def execFcmpd (ld ls : BitVec 4) (s : State) : Out State := software 9 ld ls s

/-- FCMPU (R444). -/
def execFcmpu (ld ls : BitVec 4) (s : State) : Out State := software 10 ld ls s

/-- FCMPUD (R445). -/
def execFcmpud (ld ls : BitVec 4) (s : State) : Out State := software 11 ld ls s

/-- FCVT (R448). -/
def execFcvt (ld ls : BitVec 4) (s : State) : Out State := software 12 ld ls s

/-- FCVTD (R449). -/
def execFcvtd (ld ls : BitVec 4) (s : State) : Out State := software 13 ld ls s

/-- DO (R433): the saved PC is the address of the half-word xx, which the hardware neither reads nor skips. -/
def execSoftDo (ld ls : BitVec 4) (s : State) : Out State := software 15 ld ls s

end Sys2Proof.Machine
end

