-- ==== Sys2Proof/Machine/Dispatch.lean ====
section
/-! DEFINITION. Machine/Dispatch.lean: one arm per constructor of Instr, each one direct call of its meaning. -/

namespace Sys2Proof.Machine

/-- The meaning of an instruction. -/
def exec (i : Instr) (s : State) : Host.Outcome State Fault Refusal :=
  match i with
  | .divu rd rs => Sys2Proof.Machine.execDivu rd rs s
  | .divs rd rs => Sys2Proof.Machine.execDivs rd rs s
  | .cmp rd rs => Sys2Proof.Machine.execCmp rd rs s
  | .mov rd rs => Sys2Proof.Machine.execMov rd rs s
  | .add rd rs => Sys2Proof.Machine.execAdd rd rs s
  | .adds rd rs => Sys2Proof.Machine.execAdds rd rs s
  | .cmpb rd rs => Sys2Proof.Machine.execCmpb rd rs s
  | .andn rd rs => Sys2Proof.Machine.execAndn rd rs s
  | .or rd rs => Sys2Proof.Machine.execOr rd rs s
  | .xor rd rs => Sys2Proof.Machine.execXor rd rs s
  | .subc rd rs => Sys2Proof.Machine.execSubc rd rs s
  | .not rd rs => Sys2Proof.Machine.execNot rd rs s
  | .sub rd rs => Sys2Proof.Machine.execSub rd rs s
  | .subs rd rs => Sys2Proof.Machine.execSubs rd rs s
  | .addc rd rs => Sys2Proof.Machine.execAddc rd rs s
  | .and rd rs => Sys2Proof.Machine.execAnd rd rs s
  | .neg rd rs => Sys2Proof.Machine.execNeg rd rs s
  | .negs rd rs => Sys2Proof.Machine.execNegs rd rs s
  | .mulu rd rs => Sys2Proof.Machine.execMulu rd rs s
  | .muls rd rs => Sys2Proof.Machine.execMuls rd rs s
  | .mul rd rs => Sys2Proof.Machine.execMul rd rs s
  | .chk rd rs => Sys2Proof.Machine.execChk rd rs s
  | .chkz rd => Sys2Proof.Machine.execChkz rd s
  | .nop => Sys2Proof.Machine.execNop s
  | .movd rd rs => Sys2Proof.Machine.execMovd rd rs s
  | .ret rs => Sys2Proof.Machine.execRet rs s
  | .xm1 rd rs lim => Sys2Proof.Machine.execXm1 rd rs lim s
  | .xm2 rd rs lim => Sys2Proof.Machine.execXm2 rd rs lim s
  | .xm4 rd rs lim => Sys2Proof.Machine.execXm4 rd rs lim s
  | .xm8 rd rs lim => Sys2Proof.Machine.execXm8 rd rs lim s
  | .xx1 rd rs lim => Sys2Proof.Machine.execXx1 rd rs lim s
  | .xx2 rd rs lim => Sys2Proof.Machine.execXx2 rd rs lim s
  | .xx4 rd rs lim => Sys2Proof.Machine.execXx4 rd rs lim s
  | .xx8 rd rs lim => Sys2Proof.Machine.execXx8 rd rs lim s
  | .mask rd rs const => Sys2Proof.Machine.execMask rd rs const s
  | .sum rd rs const => Sys2Proof.Machine.execSum rd rs const s
  | .sums rd rs const => Sys2Proof.Machine.execSums rd rs const s
  | .cmpi rd imm => Sys2Proof.Machine.execCmpi rd imm s
  | .movi rd imm => Sys2Proof.Machine.execMovi rd imm s
  | .addi rd imm => Sys2Proof.Machine.execAddi rd imm s
  | .addsi rd imm => Sys2Proof.Machine.execAddsi rd imm s
  | .cmpbi rd imm => Sys2Proof.Machine.execCmpbi rd imm s
  | .andni rd imm => Sys2Proof.Machine.execAndni rd imm s
  | .ori rd imm => Sys2Proof.Machine.execOri rd imm s
  | .xori rd imm => Sys2Proof.Machine.execXori rd imm s
  | .addiCz rd => Sys2Proof.Machine.execAddiCz rd s
  | .addsiCz rd => Sys2Proof.Machine.execAddsiCz rd s
  | .cmpbiAnybz rd => Sys2Proof.Machine.execCmpbiAnybz rd s
  | .shrdi ld n => Sys2Proof.Machine.execShrdi ld n s
  | .shrd ld ls => Sys2Proof.Machine.execShrd ld ls s
  | .shr ld ls => Sys2Proof.Machine.execShr ld ls s
  | .sardi ld n => Sys2Proof.Machine.execSardi ld n s
  | .sard ld ls => Sys2Proof.Machine.execSard ld ls s
  | .sar ld ls => Sys2Proof.Machine.execSar ld ls s
  | .shldi ld n => Sys2Proof.Machine.execShldi ld n s
  | .shld ld ls => Sys2Proof.Machine.execShld ld ls s
  | .shl ld ls => Sys2Proof.Machine.execShl ld ls s
  | .testlz ld ls => Sys2Proof.Machine.execTestlz ld ls s
  | .rol ld ls => Sys2Proof.Machine.execRol ld ls s
  | .shri rd n => Sys2Proof.Machine.execShri rd n s
  | .sari rd n => Sys2Proof.Machine.execSari rd n s
  | .shli rd n => Sys2Proof.Machine.execShli rd n s
  | .ldbsD rd rs dis => Sys2Proof.Machine.execLdbsD rd rs dis s
  | .ldbsA rs dis => Sys2Proof.Machine.execLdbsA rs dis s
  | .ldbuD rd rs dis => Sys2Proof.Machine.execLdbuD rd rs dis s
  | .ldbuA rs dis => Sys2Proof.Machine.execLdbuA rs dis s
  | .ldhuD rd rs dis => Sys2Proof.Machine.execLdhuD rd rs dis s
  | .ldhuA rs dis => Sys2Proof.Machine.execLdhuA rs dis s
  | .ldhsD rd rs dis => Sys2Proof.Machine.execLdhsD rd rs dis s
  | .ldhsA rs dis => Sys2Proof.Machine.execLdhsA rs dis s
  | .ldwD rd rs dis => Sys2Proof.Machine.execLdwD rd rs dis s
  | .ldwA rs dis => Sys2Proof.Machine.execLdwA rs dis s
  | .lddD rd rs dis => Sys2Proof.Machine.execLddD rd rs dis s
  | .lddA rs dis => Sys2Proof.Machine.execLddA rs dis s
  | .ldwIod rd rs dis => Sys2Proof.Machine.execLdwIod rd rs dis s
  | .ldwIoa rs dis => Sys2Proof.Machine.execLdwIoa rs dis s
  | .lddIod rd rs dis => Sys2Proof.Machine.execLddIod rd rs dis s
  | .lddIoa rs dis => Sys2Proof.Machine.execLddIoa rs dis s
  | .ldbsN rd rs dis => Sys2Proof.Machine.execLdbsN rd rs dis s
  | .ldbuN rd rs dis => Sys2Proof.Machine.execLdbuN rd rs dis s
  | .ldhuN rd rs dis => Sys2Proof.Machine.execLdhuN rd rs dis s
  | .ldhsN rd rs dis => Sys2Proof.Machine.execLdhsN rd rs dis s
  | .ldwN rd rs dis => Sys2Proof.Machine.execLdwN rd rs dis s
  | .lddN rd rs dis => Sys2Proof.Machine.execLddN rd rs dis s
  | .ldwS rd rs dis => Sys2Proof.Machine.execLdwS rd rs dis s
  | .stbsD rd rs dis => Sys2Proof.Machine.execStbsD rd rs dis s
  | .stbsA rs dis => Sys2Proof.Machine.execStbsA rs dis s
  | .stbuD rd rs dis => Sys2Proof.Machine.execStbuD rd rs dis s
  | .stbuA rs dis => Sys2Proof.Machine.execStbuA rs dis s
  | .sthuD rd rs dis => Sys2Proof.Machine.execSthuD rd rs dis s
  | .sthuA rs dis => Sys2Proof.Machine.execSthuA rs dis s
  | .sthsD rd rs dis => Sys2Proof.Machine.execSthsD rd rs dis s
  | .sthsA rs dis => Sys2Proof.Machine.execSthsA rs dis s
  | .stwD rd rs dis => Sys2Proof.Machine.execStwD rd rs dis s
  | .stwA rs dis => Sys2Proof.Machine.execStwA rs dis s
  | .stdD rd rs dis => Sys2Proof.Machine.execStdD rd rs dis s
  | .stdA rs dis => Sys2Proof.Machine.execStdA rs dis s
  | .stwIod rd rs dis => Sys2Proof.Machine.execStwIod rd rs dis s
  | .stwIoa rs dis => Sys2Proof.Machine.execStwIoa rs dis s
  | .stdIod rd rs dis => Sys2Proof.Machine.execStdIod rd rs dis s
  | .stdIoa rs dis => Sys2Proof.Machine.execStdIoa rs dis s
  | .stbsN rd rs dis => Sys2Proof.Machine.execStbsN rd rs dis s
  | .stbuN rd rs dis => Sys2Proof.Machine.execStbuN rd rs dis s
  | .sthuN rd rs dis => Sys2Proof.Machine.execSthuN rd rs dis s
  | .sthsN rd rs dis => Sys2Proof.Machine.execSthsN rd rs dis s
  | .stwN rd rs dis => Sys2Proof.Machine.execStwN rd rs dis s
  | .stdN rd rs dis => Sys2Proof.Machine.execStdN rd rs dis s
  | .stwS rd rs dis => Sys2Proof.Machine.execStwS rd rs dis s
  | .ldwR ld rs => Sys2Proof.Machine.execLdwR ld rs s
  | .lddR ld rs => Sys2Proof.Machine.execLddR ld rs s
  | .ldwP ld rs => Sys2Proof.Machine.execLdwP ld rs s
  | .lddP ld rs => Sys2Proof.Machine.execLddP ld rs s
  | .stwR ld rs => Sys2Proof.Machine.execStwR ld rs s
  | .stdR ld rs => Sys2Proof.Machine.execStdR ld rs s
  | .stwP ld rs => Sys2Proof.Machine.execStwP ld rs s
  | .stdP ld rs => Sys2Proof.Machine.execStdP ld rs s
  | .setadr rd => Sys2Proof.Machine.execSetadr rd s
  | .fetch k => Sys2Proof.Machine.execFetch k s
  | .set1 rd => Sys2Proof.Machine.execSet1 rd s
  | .set0 rd => Sys2Proof.Machine.execSet0 rd s
  | .setle rd => Sys2Proof.Machine.execSetle rd s
  | .setgt rd => Sys2Proof.Machine.execSetgt rd s
  | .setlt rd => Sys2Proof.Machine.execSetlt rd s
  | .setge rd => Sys2Proof.Machine.execSetge rd s
  | .setse rd => Sys2Proof.Machine.execSetse rd s
  | .setht rd => Sys2Proof.Machine.execSetht rd s
  | .setst rd => Sys2Proof.Machine.execSetst rd s
  | .sethe rd => Sys2Proof.Machine.execSethe rd s
  | .sete rd => Sys2Proof.Machine.execSete rd s
  | .setne rd => Sys2Proof.Machine.execSetne rd s
  | .setv rd => Sys2Proof.Machine.execSetv rd s
  | .setnv rd => Sys2Proof.Machine.execSetnv rd s
  | .set1M rd => Sys2Proof.Machine.execSet1M rd s
  | .setleM rd => Sys2Proof.Machine.execSetleM rd s
  | .setgtM rd => Sys2Proof.Machine.execSetgtM rd s
  | .setltM rd => Sys2Proof.Machine.execSetltM rd s
  | .setgeM rd => Sys2Proof.Machine.execSetgeM rd s
  | .setseM rd => Sys2Proof.Machine.execSetseM rd s
  | .sethtM rd => Sys2Proof.Machine.execSethtM rd s
  | .setstM rd => Sys2Proof.Machine.execSetstM rd s
  | .setheM rd => Sys2Proof.Machine.execSetheM rd s
  | .seteM rd => Sys2Proof.Machine.execSeteM rd s
  | .setneM rd => Sys2Proof.Machine.execSetneM rd s
  | .setvM rd => Sys2Proof.Machine.execSetvM rd s
  | .setnvM rd => Sys2Proof.Machine.execSetnvM rd s
  | .fadd ld ls => Sys2Proof.Machine.execFadd ld ls s
  | .faddd ld ls => Sys2Proof.Machine.execFaddd ld ls s
  | .fsub ld ls => Sys2Proof.Machine.execFsub ld ls s
  | .fsubd ld ls => Sys2Proof.Machine.execFsubd ld ls s
  | .fmul ld ls => Sys2Proof.Machine.execFmul ld ls s
  | .fmuld ld ls => Sys2Proof.Machine.execFmuld ld ls s
  | .fdiv ld ls => Sys2Proof.Machine.execFdiv ld ls s
  | .fdivd ld ls => Sys2Proof.Machine.execFdivd ld ls s
  | .fcmp ld ls => Sys2Proof.Machine.execFcmp ld ls s
  | .fcmpd ld ls => Sys2Proof.Machine.execFcmpd ld ls s
  | .fcmpu ld ls => Sys2Proof.Machine.execFcmpu ld ls s
  | .fcmpud ld ls => Sys2Proof.Machine.execFcmpud ld ls s
  | .fcvt ld ls => Sys2Proof.Machine.execFcvt ld ls s
  | .fcvtd ld ls => Sys2Proof.Machine.execFcvtd ld ls s
  | .emul ld ls => Sys2Proof.Machine.execEmul ld ls s
  | .emulu ld ls => Sys2Proof.Machine.execEmulu ld ls s
  | .emuls ld ls => Sys2Proof.Machine.execEmuls ld ls s
  | .emac ld ls => Sys2Proof.Machine.execEmac ld ls s
  | .emacd ld ls => Sys2Proof.Machine.execEmacd ld ls s
  | .emsub ld ls => Sys2Proof.Machine.execEmsub ld ls s
  | .emsubd ld ls => Sys2Proof.Machine.execEmsubd ld ls s
  | .ehmac ld ls => Sys2Proof.Machine.execEhmac ld ls s
  | .ehmacd ld ls => Sys2Proof.Machine.execEhmacd ld ls s
  | .ehcmuld ld ls => Sys2Proof.Machine.execEhcmuld ld ls s
  | .ehcmacd ld ls => Sys2Proof.Machine.execEhcmacd ld ls s
  | .ehcsumd ld ls => Sys2Proof.Machine.execEhcsumd ld ls s
  | .ehcfftd ld ls => Sys2Proof.Machine.execEhcfftd ld ls s
  | .ehcfftsd ld ls => Sys2Proof.Machine.execEhcfftsd ld ls s
  | .softDo ld ls => Sys2Proof.Machine.execSoftDo ld ls s
  | .dbv rel => Sys2Proof.Machine.execDbv rel s
  | .dbnv rel => Sys2Proof.Machine.execDbnv rel s
  | .dbe rel => Sys2Proof.Machine.execDbe rel s
  | .dbne rel => Sys2Proof.Machine.execDbne rel s
  | .dbc rel => Sys2Proof.Machine.execDbc rel s
  | .dbnc rel => Sys2Proof.Machine.execDbnc rel s
  | .dbse rel => Sys2Proof.Machine.execDbse rel s
  | .dbht rel => Sys2Proof.Machine.execDbht rel s
  | .dbn rel => Sys2Proof.Machine.execDbn rel s
  | .dbnn rel => Sys2Proof.Machine.execDbnn rel s
  | .dble rel => Sys2Proof.Machine.execDble rel s
  | .dbgt rel => Sys2Proof.Machine.execDbgt rel s
  | .dbr rel => Sys2Proof.Machine.execDbr rel s
  | .frame ld ls => Sys2Proof.Machine.execFrame ld ls s
  | .call ld rs const => Sys2Proof.Machine.execCall ld rs const s
  | .bv rel => Sys2Proof.Machine.execBv rel s
  | .bnv rel => Sys2Proof.Machine.execBnv rel s
  | .be rel => Sys2Proof.Machine.execBe rel s
  | .bne rel => Sys2Proof.Machine.execBne rel s
  | .bc rel => Sys2Proof.Machine.execBc rel s
  | .bnc rel => Sys2Proof.Machine.execBnc rel s
  | .bse rel => Sys2Proof.Machine.execBse rel s
  | .bht rel => Sys2Proof.Machine.execBht rel s
  | .bn rel => Sys2Proof.Machine.execBn rel s
  | .bnn rel => Sys2Proof.Machine.execBnn rel s
  | .ble rel => Sys2Proof.Machine.execBle rel s
  | .bgt rel => Sys2Proof.Machine.execBgt rel s
  | .br rel => Sys2Proof.Machine.execBr rel s
  | .traple trapno => Sys2Proof.Machine.execTraple trapno s
  | .trapgt trapno => Sys2Proof.Machine.execTrapgt trapno s
  | .traplt trapno => Sys2Proof.Machine.execTraplt trapno s
  | .trapge trapno => Sys2Proof.Machine.execTrapge trapno s
  | .trapse trapno => Sys2Proof.Machine.execTrapse trapno s
  | .trapht trapno => Sys2Proof.Machine.execTrapht trapno s
  | .trapst trapno => Sys2Proof.Machine.execTrapst trapno s
  | .traphe trapno => Sys2Proof.Machine.execTraphe trapno s
  | .trape trapno => Sys2Proof.Machine.execTrape trapno s
  | .trapne trapno => Sys2Proof.Machine.execTrapne trapno s
  | .trapv trapno => Sys2Proof.Machine.execTrapv trapno s
  | .trap trapno => Sys2Proof.Machine.execTrap trapno s

end Sys2Proof.Machine
end

