-- ==== Sys2Proof/Machine/Fetch.lean ====
section
/-! DEFINITION. Machine/Fetch.lean: prefetching instruction words into the cache (spec/20_memory.md R115), fetching an instruction's half-words from
it (R94, R114, R120, 30_encoding R150) and decoding them. -/

namespace Sys2Proof.Machine

/-- The address the next instruction is fetched from: the delay instruction's, or the PC (45 R358). -/
def State.fetchAddress (s : State) : Word :=
  match s.delay with
  | .taken slot => slot
  | _ => s.pc

/-! ## Loading the cache -/

/-- The next instruction word is read from memory, with a Parity Error pended where the read has one, and loaded (R115). -/
def State.loadCacheWord (s : State) : State :=
  { s.afterRead .word s.cache.next with cache := s.cache.load (s.valueAt .word s.cache.next) }

/-- Words are loaded one after the other, at most `k` of them, until the cache has gone as far as the word `last`; none is loaded whose read would
be refused (log 53). -/
def State.prefetch (last : Word) : Nat → State → State
  | 0, s => s
  | k + 1, s =>
    if (last - s.cache.next).msb || (s.readRefusal s.cache.next).isSome then s else State.prefetch last k s.loadCacheWord

/-- Where the cache does not hold a word that lies at most 32 words ahead of what it holds, it is loaded as far as that word (R115, R119). -/
def State.approach (s : State) (w : Word) : State :=
  if s.cache.holds w || decide (128 < (w - s.cache.next).toNat) then s else s.prefetch w 33

/-- The word is available in the cache afterwards: held, prefetched, or else loaded by itself (R115, R117). -/
def State.demand (s : State) (w : Word) : Out State :=
  let t := s.approach w
  if t.cache.holds w then .next t
  else match t.readRefusal w with
    | some r => .refused r
    | none => .next ({ t with cache := t.cache.restart w } : State).loadCacheWord

/-- The prefetch after an instruction has been fetched: a flush that waited for the delay instruction is done (R118; log 18), then words are
loaded until eight words beyond the one addressed by the PC are available, from the IRAM as from the other areas (R115;
of the IRAM R117 says on demand: DESIGN CHOICE, log 53). -/
def State.runAhead (s : State) : State :=
  let t : State := if s.cache.flushAfterSlot then { s with cache := s.cache.flush s.pc } else s
  t.prefetch (wordAddress s.pc + 32) 64

/-! ## Fetching from the cache -/

/-- The half-word that a fetch delivers from the cache, and, where memory holds another one by now, that one or this (R120, 93 U23; log 18). -/
def State.delivered (s : State) (a : Word) : Half × State :=
  match s.byteAt a, s.byteAt (a + 1) with
  | some b0, some b1 =>
    if s.cache.half a = b0 ++ b1 then (s.cache.half a, s) else (if s.fresh.getLsbD 0 then s.cache.half a else b0 ++ b1, s.drawn 1)
  | _, _ => (s.cache.half a, s)

/-- Fetch the half-word at an address. -/
def State.fetchHalf (s : State) (a : Word) : Out (Half × State) :=
  andThen (s.demand (wordAddress a)) fun t => .next (t.delivered (Size.half.align a))

/-- Fetch a half-word that the instruction may not have; 0 where it has none. -/
def State.fetchIf (s : State) (needed : Bool) (a : Word) : Out (Half × State) :=
  if needed then s.fetchHalf a else .next (0, s)

/-- The half-words of the instruction at an address, 0 for those it does not have (30 R150). -/
def State.fetchHalves (s : State) (a : Word) : Out ((Half × Half × Half) × State) :=
  andThen (s.fetchHalf a) fun (h1, s1) =>
    andThen (s1.fetchIf (needsSecond h1) (a + 2)) fun (h2, s2) =>
      andThen (s2.fetchIf (needsThird h1 h2) (a + 4)) fun (h3, s3) => .next ((h1, h2, h3), s3)

/-- The instruction that three half-words are, refused where they are none (30 R151, D6). -/
def decodeOut (h1 h2 h3 : Half) : Out Instr :=
  match decode h1 h2 h3 with
  | .ok i => .next i
  | .reserved why => .refused (.undecodable why)

/-- Fetch and decode the next instruction, and prefetch beyond it. -/
def State.fetch (s : State) : Out (Instr × State) :=
  andThen (s.fetchHalves s.fetchAddress) fun (h, t) => andThen (decodeOut h.1 h.2.1 h.2.2) fun i => .next (i, t.runAhead)

end Sys2Proof.Machine
end

