-- ==== Sys2Proof/Machine/Step.lean ====
section
/-! DEFINITION. Machine/Step.lean: one step of the machine: the environment's input, then one instruction with the boundary after it, or what the
power state has instead (60_exceptions R480, 61 R540 to R544). -/

namespace Sys2Proof.Machine

/-- The environment's input of this step: the head of the schedule; with an empty schedule the pins stay, no cycle passes and RESET# is not
pulsed (log 5). -/
def State.input (s : State) : EnvInput :=
  match s.schedule with
  | e :: _ => e
  | [] => { pins := s.pins, cycles := 0, resetPin := false, parity := s.parityLines }

/-- The state with the input taken in. -/
def State.sense (s : State) : State :=
  { s with pins := s.input.pins, parityLines := s.input.parity, schedule := s.schedule.tail }

/-- Fetch, decode and execute one instruction; then, but in sleep, the devices and the boundary. -/
def State.runInstruction (s : State) (cycles : Nat) : Out State :=
  andThen s.fetch fun (i, t) =>
    andThen (exec i t) fun u => if u.power = .sleep then .next u else u.elapse cycles

/-- Power-down: the devices run; an unmasked request wakes the processor whatever L (61 R541, D26). -/
def State.idle (s : State) (cycles : Nat) : Out State :=
  if (s.clock cycles).2 then .next ((s.clock cycles).1.resetException .watchdog)
  else match (s.clock cycles).1.interrupt with
    | some _ => ({ (s.clock cycles).1 with power := .running } : State).boundary
    | none => .next (s.clock cycles).1

/-- One step. -/
def step (s : State) : Host.Outcome State Fault Refusal :=
  let t := s.sense
  if s.input.resetPin then .next (t.resetException .pin)
  else match t.power with
    | .running => t.runInstruction s.input.cycles
    | .powerDown => t.idle s.input.cycles
    | .sleep => if t.pinWake then .next (t.resetException .clockDown) else .next t

/-- Six bytes of an instruction placed at an address, whatever is connected there. -/
def State.placeBytes (s : State) (a : Word) (bs : List Byte) : State :=
  { s with
    mem := (bs.zip (List.range bs.length)).foldl (fun m x => Memory.set s.lost.blank m (s.cellOf (a + BitVec.ofNat 32 x.2)) x.1) s.mem }

/-- The schedule without a RESET# pulse in the coming step. -/
def withoutReset : List EnvInput → List EnvInput
  | [] => []
  | e :: rest => { e with resetPin := false } :: rest

/-- The instruction with the bits w placed where the next step fetches (log 43): its half-words in memory, the processor running and not being
reset, and nothing in the cache, so that the fetch reads memory. -/
def State.withFetchWord (s : State) (nbits w : Nat) : State :=
  { s.placeBytes s.fetchAddress (tableBytes nbits w) with
    power := .running, cache := s.cache.restart s.fetchAddress, schedule := withoutReset s.schedule }

end Sys2Proof.Machine
end

