-- ==== Sys2Proof/Safety.lean ====
section
/-! DEFINITION. Safety.lean: the words in which statements about the machine are made: the invariant of every state, what counts as an
instruction that can run, the state that an instruction finds and leaves, and tables of the instruction families. Nothing here is called by the
machine. -/

namespace Sys2Proof.Machine

/-! ## The invariant -/

/-- What every step keeps, from any state that has it. -/
structure State.Inv (s : State) : Prop where
  /-- Bit zero of the PC is zero (10_state R22). -/
  pcEven : s.pc.getLsbD 0 = false
  /-- A delay instruction stands at an even address (10_state R22, R65). -/
  slotEven : ∀ a, s.delay = .taken a → a.getLsbD 0 = false
  /-- Memory is in its canonical form. -/
  memCanonical : s.memWf = true
  /-- Every cell is an address (20_memory R90). -/
  memInside : ∀ x ∈ s.mem, x.1 < 2 ^ 32
  /-- A TPR waits for the end of the time unit only with bit 31 = 1 (10_state R71, 61 R522). -/
  tprWaits : ∀ v, s.timer.tprPending = some v → v.getLsbD 31 = true
  /-- The prescaler counts within the time unit (61 R521). -/
  prescalerInUnit : s.timer.prescaler < timeUnit s.timer.tpr
  /-- A processor that does not run owes no delay instruction and no lockout (10_state R65, R66, R75). -/
  asleepClear : s.power ≠ .running → s.delay = .none ∧ s.callLockout = false
  /-- The cache counters address words, at most 32 of them (10_state R70, 20_memory R114). -/
  cacheBounded : s.cache.wf = true

/-- A run is safe as long as its steps answer a next state: the machine itself never stops (60_exceptions R485), a refusal is the spec's
(93). -/
def answersNext (x : Out State) : Prop := ∃ t, x = .next t

/-! ## When an instruction can run -/

/-- An instruction of `len` half-words is not one that the spec leaves without meaning where it stands: under H = 1 it names no global register
(93 U4), and with a Delayed Branch before it the two are no longer than three half-words (93 U37). -/
def State.runs (s : State) (len : Nat) (global : Bool) : Prop :=
  (s.sr.h && global) = false ∧ (s.delay = .none ∨ s.sr.ilc.toNat + len ≤ 3)

/-- It is moreover no delay instruction: branching instructions and FETCH must not be one (93 U36). -/
def State.branches (s : State) (global : Bool) : Prop := (s.sr.h && global) = false ∧ s.delay = .none

/-! ## What an instruction finds -/

/-- The PC while an instruction of `len` half-words executes: past it, or, in the delay slot of a branch taken, the target (00_scope R10,
45 R358). -/
def State.nextPc (s : State) (len : Nat) : Word :=
  match s.delay with
  | .taken _ => s.pc
  | _ => s.pc + BitVec.ofNat 32 (2 * len)

/-- The SR while it executes: P set, the ILC its length, but not in the delay slot of a branch taken (10_state R40, R42). -/
def State.srDuring (s : State) (len : Nat) : StatusReg :=
  match s.delay with
  | .taken _ => { s.sr with p := true }
  | _ => { s.sr with p := true, ilc := BitVec.ofNat 2 len }

/-- The content of a register, or of the one following it, while it executes. -/
def State.slotDuring (s : State) (len : Nat) : Slot → Word
  | .loc k => s.readLocal k
  | .pc => s.nextPc len
  | .sr => (s.srDuring len).toWord
  | .glob c => s.readGlobal c

/-- A register operand. -/
def State.operand (s : State) (len : Nat) (r : Reg) : Word := s.slotDuring len (regSlot r)

/-- A register operand where the SR code means C (42 R269). -/
def State.addend (s : State) (len : Nat) (r : Reg) : Word :=
  if r.isSr then (if s.sr.c then 1 else 0) else s.operand len r

/-! ## What an instruction leaves -/

/-- The state in which an instruction of `len` half-words has done nothing but to set its flags and to use `k` free values. -/
def State.underway (s : State) (len k : Nat) (f : Flags) : State :=
  { s with
    pc := s.nextPc len
    sr := { s.srDuring len with c := f.c, z := f.z, n := f.n, v := f.v, h := false }
    delay := .none
    callLockout := false
    draws := s.draws + k }

/-- The same, ended normally: after the delay instruction of a branch taken the ILC is any value (93 U6). -/
def State.after (s : State) (len k : Nat) (f : Flags) : State := (s.underway len k f).settle s.delay

/-- A general register written: no PC, no SR. -/
def State.put (s : State) (r : Reg) (v : Word) : State :=
  match r with
  | .l c => s.writeLocal c.toNat v
  | .g c => s.writeGlobal c v

/-- A register or a following one written; of the SR bits 15..0. -/
def State.putSlot (s : State) (v : Word) : Slot → State
  | .loc k => s.writeLocal k v
  | .pc => { s with pc := v &&& 0xFFFFFFFE }
  | .sr => { s with sr := s.sr.setLow v }
  | .glob c => s.writeGlobal c v

/-- The SR after an instruction whose result v goes to it (10_state R27). -/
def State.afterSr (s : State) (len k : Nat) (v : Word) : State :=
  let t := s.underway len k s.flags
  { t with sr := t.sr.setLow v }

/-- An error exception of an instruction that began at `s` and did its work to reach `t` (60 R471, R474). -/
def State.raises (s t : State) : Out State :=
  t.takeException 60 (match s.delay with | .taken slot => slot | _ => t.pc) false

/-- A result that sets L from 0 in user state (10_state R38). -/
def State.lockForbidden (s : State) (v : Word) : Bool := !s.sr.s && !s.sr.l && v.getLsbD 15

/-- `x` is what an instruction answers whose result v and flags f reach Rd: a register takes v; the SR takes bits 15..0 of v in place of the
flags, with a Privilege Error where user state sets L (41 R244); the PC is refused (93 U12). -/
def answersResult (x : Out State) (s : State) (len k : Nat) (rd : Reg) (v : Word) (f : Flags) : Prop :=
  (rd.notPcSr = true → x = .next ((s.after len k f).put rd v)) ∧
  (rd.isSr = true → s.lockForbidden v = false → x = .next ((s.afterSr len k v).settle s.delay)) ∧
  (rd.isSr = true → s.lockForbidden v = true → x = s.raises (s.afterSr len k v)) ∧
  (rd.isPc = true → x = .refused .pcDestination)

/-- The same where the PC as Rd makes an implicit branch (45 R353): M cleared, the cache flushed, the ILC any value. -/
def answersBranch (x : Out State) (s : State) (len k : Nat) (rd : Reg) (v : Word) (f : Flags) : Prop :=
  (rd.isPc = false → answersResult x s len k rd v f) ∧
  (rd.isPc = true → s.delay = .none →
    x = .next { s.underway len k f with
      pc := v &&& 0xFFFFFFFE
      sr := { (s.underway len k f).sr with m := false, ilc := (Config.freeWord (s.draws + k)).extractLsb' 0 2 }
      draws := s.draws + k + 1
      cache := s.cache.flush v }) ∧
  (rd.isPc = true → s.delay ≠ .none → x = .refused .branchInDelaySlot)

/-- The same for an instruction that raises a Range Error where `error` holds (42 R252). -/
def answersTrapping (x : Out State) (s : State) (len : Nat) (rd : Reg) (v : Word) (f : Flags) (error : Bool) : Prop :=
  (error = false → answersResult x s len 0 rd v f) ∧
  (error = true → rd.notPcSr = true → x = s.raises ((s.underway len 0 f).put rd v)) ∧
  (error = true → rd.isSr = true → x = s.raises (s.afterSr len 0 v)) ∧
  (error = true → rd.isPc = true → x = .refused .pcDestination)

/-- The same for a double-word result hi//lo to Rd//Rdf: G15 has no following register (93 U5). -/
def answersPair (x : Out State) (s : State) (k : Nat) (rd : Reg) (hi lo : Word) (f : Flags) : Prop :=
  match followSlot rd with
  | none => x = .refused .reservedRegister
  | some rdf =>
    (rd.notPcSr = true → x = .next (((s.after 1 k f).put rd hi).putSlot lo rdf)) ∧
    (rd.isSr = true → s.lockForbidden hi = false → x = .next (((s.afterSr 1 k hi).settle s.delay).putSlot lo rdf)) ∧
    (rd.isSr = true → s.lockForbidden hi = true → x = s.raises ((s.afterSr 1 k hi).putSlot lo rdf)) ∧
    (rd.isPc = true → x = .refused .pcDestination)

/-- What an instruction may not touch whose only effects are on PC, SR and the registers L0..L63, G2..G15: every other register and every byte
of memory. -/
structure State.SameOutside (s t : State) : Prop where
  sp : t.sp = s.sp
  ub : t.ub = s.ub
  fcr : t.fcr = s.fcr
  timer : t.timer = s.timer
  io3 : t.io3 = s.io3
  bus : t.bus = s.bus
  resetFlags : t.clockOnFlag = s.clockOnFlag ∧ t.watchdogFlag = s.watchdogFlag
  power : t.power = s.power
  pins : t.pins = s.pins
  platform : t.platform = s.platform
  io : t.ioLog = s.ioLog
  lost : t.lost = s.lost
  parity : t.parityPending = s.parityPending
  bytes : ∀ a, t.byteAt a = s.byteAt a

/-! ## The free values an instruction may leave -/

/-- The n-th coming free value. -/
def State.draw (s : State) (n : Nat) : Word := Config.freeWord (s.draws + n)

/-- V, C, Z, N where they are undefined: bits 0 to 3 of the next free value (log 8). -/
def State.anyV (s : State) : Bool := (s.draw 0).getLsbD 0

/-- C undefined. -/
def State.anyC (s : State) : Bool := (s.draw 0).getLsbD 1

/-- Z undefined. -/
def State.anyZ (s : State) : Bool := (s.draw 0).getLsbD 2

/-- N undefined. -/
def State.anyN (s : State) : Bool := (s.draw 0).getLsbD 3

/-- All four flags undefined. -/
def State.anyFlagsOf (s : State) : Flags := { c := s.anyC, z := s.anyZ, n := s.anyN, v := s.anyV }

/-- `x` is what a shift of the local pair Ld//Ldf answers whose result is v (43 R290). -/
def answersLocalPair (x : Out State) (s : State) (k : Nat) (ld : BitVec 4) (v : BitVec 64) (f : Flags) : Prop :=
  x = .next (((s.after 1 k f).writeLocal ld.toNat (v.extractLsb' 32 32)).writeLocal (ld.toNat + 1) (v.extractLsb' 0 32))

/-- The local pair Ld//Ldf as one value, Ld the high-order word (43 R290). -/
def State.localPair (s : State) (ld : BitVec 4) : BitVec 64 := s.readLocal ld.toNat ++ s.readLocal (ld.toNat + 1)

/-! ## Flags and results in the words of the rules -/

/-- The flags that a move of v leaves: Z, N from v, V undefined, C unchanged. -/
def movedFlags (s : State) (v : Word) (k : Nat) : Flags := { c := s.sr.c, z := v == 0, n := v.msb, v := (s.draw k).getLsbD 0 }

/-- The high global registers that read as they are: SP, UB, TCR, TR and WCR (41 R243). -/
def State.highPlain (s : State) : BitVec 4 → Option Word
  | 2#4 => some s.sp
  | 3#4 => some s.ub
  | 6#4 => some s.timer.tcr
  | 7#4 => some s.timer.tr
  | 8#4 => some (0#16 ++ s.io3.wcr)
  | _ => none

/-- `v` is what the ISR shows: its flags and the pin levels, those of IO1 to IO3 as inputs (10_state R56). -/
def State.isrShows (s : State) (v : Word) : Prop :=
  v.extractLsb' 11 21 = 0 ∧ v.getLsbD 10 = s.clockOnFlag ∧ v.getLsbD 9 = s.watchdogFlag ∧ v.getLsbD 8 = s.io3.eventFlag ∧
  v.getLsbD 7 = s.io3.equalFlag ∧ (s.fcr.getLsbD 10 = true → v.getLsbD 6 = s.pins.io3) ∧
  (s.fcr.getLsbD 6 = true → v.getLsbD 5 = s.pins.io2) ∧ (s.fcr.getLsbD 2 = true → v.getLsbD 4 = s.pins.io1) ∧
  v.getLsbD 3 = s.pins.int4 ∧ v.getLsbD 2 = s.pins.int3 ∧ v.getLsbD 1 = s.pins.int2 ∧ v.getLsbD 0 = s.pins.int1

/-- The state that a high global register's new value leaves, with the side effects of a move to the TPR, WCR and FCR (10_state R55, R57,
61 R522, R531); a move to the read-only ISR leaves it as it is (log 13). -/
def highWritten (u : State) (v : Word) : BitVec 4 → Option State
  | 2#4 => some { u with sp := v }
  | 3#4 => some { u with ub := v }
  | 4#4 => some { u with bus := { u.bus with bcr := v } }
  | 5#4 => some { u with timer := if v.getLsbD 31 then { u.timer with tprPending := some v } else { u.timer with tpr := v, prescaler := 0 } }
  | 6#4 => some { u with timer := { u.timer with tcr := v } }
  | 7#4 => some { u with timer := { u.timer with tr := v } }
  | 8#4 => some { u with io3 := { u.io3 with wcr := v.extractLsb' 0 16, eventFlag := false, equalFlag := false, equalSeen := false } }
  | 9#4 => some u
  | 10#4 => some
    { u with
      fcr := v
      io3 := if v.getLsbD 13 then { u.io3 with eventFlag := false, equalFlag := false, toggleLatch := false } else u.io3
      eovPending := if v.getLsbD 16 then false else u.eovPending }
  | 11#4 => some { u with bus := { u.bus with mcr := v } }
  | _ => none

/-- The flags of a + b (42 R250). -/
def sumFlags (a b : Word) : Flags := { c := BitVec.uaddOverflow a b, z := a + b == 0, n := (a + b).msb, v := BitVec.saddOverflow a b }

/-- The flags of a - b, C the borrow (42 R250). -/
def differenceFlags (a b : Word) : Flags :=
  { c := BitVec.usubOverflow a b, z := a - b == 0, n := (a - b).msb, v := BitVec.ssubOverflow a b }

/-- The operand CZ: C where Z = 0 or bit 0 of Rd is one (42 R256). -/
def roundBit (s : State) (a : Word) : Word := if s.sr.c && (!s.sr.z || a.getLsbD 0) then 1 else 0

/-- The flags of a shift left by k (43 R304): V where shifting back does not restore the operand; C undefined. -/
def leftFlags (s : State) {w : Nat} (x : BitVec w) (k : Nat) : Flags :=
  { c := s.anyC, z := x <<< k == 0, n := (x <<< k).msb, v := (x <<< k).sshiftRight k != x }

/-- The flags of a shift right by k with result r (43 R305, D16): C the last bit shifted out. -/
def rightFlags (s : State) {w : Nat} (x r : BitVec w) (k : Nat) : Flags :=
  { c := k != 0 && x.getLsbD (k - 1), z := r == 0, n := r.msb, v := s.sr.v }

/-- The priority of an interrupt source, a lower number the higher one (60 R461); the timer's by FCR(21..20) (R462). -/
def IntSource.priority (fcr : Word) : IntSource → Nat
  | .io3 => 5
  | .timer => 12 - 2 * (fcr.extractLsb' 20 2).toNat
  | .int1 => 7
  | .int2 => 9
  | .int3 => 11
  | .int4 => 13
  | .io1 => 14
  | .io2 => 15

/-- A memory access (40 R175): the data type, the address register (none in absolute mode), what is added to its content for the address,
what the next-address and post-increment modes add to the register, the data register, and the instruction's length. -/
structure Access where
  type : DataType
  base : Option Reg
  dis : Word
  bump : Option Word
  data : Reg
  len : Nat
  deriving DecidableEq, Repr

end Sys2Proof.Machine

/-! ## The tables of the families -/

namespace Sys2Proof

open Sys2Proof.Machine

/-- SETxx (44 R329): the condition, what it sets, and the register. SET0 sets 0 always. -/
def Instr.setForm : Instr → Option (Cond × Word × Reg)
  | .set1 rd => some (.always, 1, rd)
  | .set0 rd => some (.always, 0, rd)
  | .setle rd => some (.le, 1, rd)
  | .setgt rd => some (.gt, 1, rd)
  | .setlt rd => some (.n, 1, rd)
  | .setge rd => some (.nn, 1, rd)
  | .setse rd => some (.se, 1, rd)
  | .setht rd => some (.ht, 1, rd)
  | .setst rd => some (.c, 1, rd)
  | .sethe rd => some (.nc, 1, rd)
  | .sete rd => some (.e, 1, rd)
  | .setne rd => some (.ne, 1, rd)
  | .setv rd => some (.v, 1, rd)
  | .setnv rd => some (.nv, 1, rd)
  | .set1M rd => some (.always, 0xFFFFFFFF, rd)
  | .setleM rd => some (.le, 0xFFFFFFFF, rd)
  | .setgtM rd => some (.gt, 0xFFFFFFFF, rd)
  | .setltM rd => some (.n, 0xFFFFFFFF, rd)
  | .setgeM rd => some (.nn, 0xFFFFFFFF, rd)
  | .setseM rd => some (.se, 0xFFFFFFFF, rd)
  | .sethtM rd => some (.ht, 0xFFFFFFFF, rd)
  | .setstM rd => some (.c, 0xFFFFFFFF, rd)
  | .setheM rd => some (.nc, 0xFFFFFFFF, rd)
  | .seteM rd => some (.e, 0xFFFFFFFF, rd)
  | .setneM rd => some (.ne, 0xFFFFFFFF, rd)
  | .setvM rd => some (.v, 0xFFFFFFFF, rd)
  | .setnvM rd => some (.nv, 0xFFFFFFFF, rd)
  | _ => none

/-- Branch instructions (45 R352): the condition and the distance. -/
def Instr.branchForm : Instr → Option (Cond × Rel)
  | .bv rel => some (.v, rel)
  | .bnv rel => some (.nv, rel)
  | .be rel => some (.e, rel)
  | .bne rel => some (.ne, rel)
  | .bc rel => some (.c, rel)
  | .bnc rel => some (.nc, rel)
  | .bse rel => some (.se, rel)
  | .bht rel => some (.ht, rel)
  | .bn rel => some (.n, rel)
  | .bnn rel => some (.nn, rel)
  | .ble rel => some (.le, rel)
  | .bgt rel => some (.gt, rel)
  | .br rel => some (.always, rel)
  | _ => none

/-- Delayed Branch instructions (45 R355): the condition and the distance. -/
def Instr.delayedForm : Instr → Option (Cond × Rel)
  | .dbv rel => some (.v, rel)
  | .dbnv rel => some (.nv, rel)
  | .dbe rel => some (.e, rel)
  | .dbne rel => some (.ne, rel)
  | .dbc rel => some (.c, rel)
  | .dbnc rel => some (.nc, rel)
  | .dbse rel => some (.se, rel)
  | .dbht rel => some (.ht, rel)
  | .dbn rel => some (.n, rel)
  | .dbnn rel => some (.nn, rel)
  | .dble rel => some (.le, rel)
  | .dbgt rel => some (.gt, rel)
  | .dbr rel => some (.always, rel)
  | _ => none

/-- Trap instructions (45 R368): the condition and the trap number. -/
def Instr.trapForm : Instr → Option (Cond × BitVec 6)
  | .traple t => some (.le, t)
  | .trapgt t => some (.gt, t)
  | .traplt t => some (.n, t)
  | .trapge t => some (.nn, t)
  | .trapse t => some (.se, t)
  | .trapht t => some (.ht, t)
  | .trapst t => some (.c, t)
  | .traphe t => some (.nc, t)
  | .trape t => some (.e, t)
  | .trapne t => some (.ne, t)
  | .trapv t => some (.v, t)
  | .trap t => some (.always, t)
  | _ => none

/-- Software instructions (47 R430): OP(11..8), Ld and Ls. -/
def Instr.softwareForm : Instr → Option (BitVec 4 × BitVec 4 × BitVec 4)
  | .fadd ld ls => some (0, ld, ls)
  | .faddd ld ls => some (1, ld, ls)
  | .fsub ld ls => some (2, ld, ls)
  | .fsubd ld ls => some (3, ld, ls)
  | .fmul ld ls => some (4, ld, ls)
  | .fmuld ld ls => some (5, ld, ls)
  | .fdiv ld ls => some (6, ld, ls)
  | .fdivd ld ls => some (7, ld, ls)
  | .fcmp ld ls => some (8, ld, ls)
  | .fcmpd ld ls => some (9, ld, ls)
  | .fcmpu ld ls => some (10, ld, ls)
  | .fcmpud ld ls => some (11, ld, ls)
  | .fcvt ld ls => some (12, ld, ls)
  | .fcvtd ld ls => some (13, ld, ls)
  | .softDo ld ls => some (15, ld, ls)
  | _ => none

/-- XMx and XXx (44 R310): the shift, whether the bound is checked, Rd, Rs and lim. -/
def Instr.indexForm : Instr → Option (Nat × Bool × Reg × Reg × Lim)
  | .xm1 rd rs lim => some (0, true, rd, rs, lim)
  | .xm2 rd rs lim => some (1, true, rd, rs, lim)
  | .xm4 rd rs lim => some (2, true, rd, rs, lim)
  | .xm8 rd rs lim => some (3, true, rd, rs, lim)
  | .xx1 rd rs lim => some (0, false, rd, rs, lim)
  | .xx2 rd rs lim => some (1, false, rd, rs, lim)
  | .xx4 rd rs lim => some (2, false, rd, rs, lim)
  | .xx8 rd rs lim => some (3, false, rd, rs, lim)
  | _ => none

/-- Loads from memory (40 R180 to R189, R194 to R199). -/
def Instr.loadForm : Instr → Option Access
  | .ldbsD rd rs dis => some ⟨.byteS, some rd, disBValue dis, none, rs, disBLength dis⟩
  | .ldbsA rs dis => some ⟨.byteS, none, disBValue dis, none, rs, disBLength dis⟩
  | .ldbsN rd rs dis => some ⟨.byteS, some rd, 0, some (disBValue dis), rs, disBLength dis⟩
  | .ldbuD rd rs dis => some ⟨.byteU, some rd, disBValue dis, none, rs, disBLength dis⟩
  | .ldbuA rs dis => some ⟨.byteU, none, disBValue dis, none, rs, disBLength dis⟩
  | .ldbuN rd rs dis => some ⟨.byteU, some rd, 0, some (disBValue dis), rs, disBLength dis⟩
  | .ldhuD rd rs dis => some ⟨.halfU, some rd, disHValue dis, none, rs, disHLength dis⟩
  | .ldhuA rs dis => some ⟨.halfU, none, disHValue dis, none, rs, disHLength dis⟩
  | .ldhuN rd rs dis => some ⟨.halfU, some rd, 0, some (disHValue dis), rs, disHLength dis⟩
  | .ldhsD rd rs dis => some ⟨.halfS, some rd, disHValue dis, none, rs, disHLength dis⟩
  | .ldhsA rs dis => some ⟨.halfS, none, disHValue dis, none, rs, disHLength dis⟩
  | .ldhsN rd rs dis => some ⟨.halfS, some rd, 0, some (disHValue dis), rs, disHLength dis⟩
  | .ldwD rd rs dis => some ⟨.word, some rd, disWValue dis, none, rs, disWLength dis⟩
  | .ldwA rs dis => some ⟨.word, none, disWValue dis, none, rs, disWLength dis⟩
  | .ldwN rd rs dis => some ⟨.word, some rd, 0, some (disWValue dis), rs, disWLength dis⟩
  | .lddD rd rs dis => some ⟨.double, some rd, disWValue dis, none, rs, disWLength dis⟩
  | .lddA rs dis => some ⟨.double, none, disWValue dis, none, rs, disWLength dis⟩
  | .lddN rd rs dis => some ⟨.double, some rd, 0, some (disWValue dis), rs, disWLength dis⟩
  | .ldwR ld rs => some ⟨.word, some (.l ld), 0, none, rs, 1⟩
  | .ldwP ld rs => some ⟨.word, some (.l ld), 0, some 4, rs, 1⟩
  | .lddR ld rs => some ⟨.double, some (.l ld), 0, none, rs, 1⟩
  | .lddP ld rs => some ⟨.double, some (.l ld), 0, some 8, rs, 1⟩
  | _ => none

/-- Stores to memory (40 R201 to R216). -/
def Instr.storeForm : Instr → Option Access
  | .stbsD rd rs dis => some ⟨.byteS, some rd, disBValue dis, none, rs, disBLength dis⟩
  | .stbsA rs dis => some ⟨.byteS, none, disBValue dis, none, rs, disBLength dis⟩
  | .stbsN rd rs dis => some ⟨.byteS, some rd, 0, some (disBValue dis), rs, disBLength dis⟩
  | .stbuD rd rs dis => some ⟨.byteU, some rd, disBValue dis, none, rs, disBLength dis⟩
  | .stbuA rs dis => some ⟨.byteU, none, disBValue dis, none, rs, disBLength dis⟩
  | .stbuN rd rs dis => some ⟨.byteU, some rd, 0, some (disBValue dis), rs, disBLength dis⟩
  | .sthuD rd rs dis => some ⟨.halfU, some rd, disHValue dis, none, rs, disHLength dis⟩
  | .sthuA rs dis => some ⟨.halfU, none, disHValue dis, none, rs, disHLength dis⟩
  | .sthuN rd rs dis => some ⟨.halfU, some rd, 0, some (disHValue dis), rs, disHLength dis⟩
  | .sthsD rd rs dis => some ⟨.halfS, some rd, disHValue dis, none, rs, disHLength dis⟩
  | .sthsA rs dis => some ⟨.halfS, none, disHValue dis, none, rs, disHLength dis⟩
  | .sthsN rd rs dis => some ⟨.halfS, some rd, 0, some (disHValue dis), rs, disHLength dis⟩
  | .stwD rd rs dis => some ⟨.word, some rd, disWValue dis, none, rs, disWLength dis⟩
  | .stwA rs dis => some ⟨.word, none, disWValue dis, none, rs, disWLength dis⟩
  | .stwN rd rs dis => some ⟨.word, some rd, 0, some (disWValue dis), rs, disWLength dis⟩
  | .stdD rd rs dis => some ⟨.double, some rd, disWValue dis, none, rs, disWLength dis⟩
  | .stdA rs dis => some ⟨.double, none, disWValue dis, none, rs, disWLength dis⟩
  | .stdN rd rs dis => some ⟨.double, some rd, 0, some (disWValue dis), rs, disWLength dis⟩
  | .stwR ld rs => some ⟨.word, some (.l ld), 0, none, rs, 1⟩
  | .stwP ld rs => some ⟨.word, some (.l ld), 0, some 4, rs, 1⟩
  | .stdR ld rs => some ⟨.double, some (.l ld), 0, none, rs, 1⟩
  | .stdP ld rs => some ⟨.double, some (.l ld), 0, some 8, rs, 1⟩
  | _ => none

/-- Loads from the I/O address space (40 R190, R191). -/
def Instr.ioLoadForm : Instr → Option Access
  | .ldwIod rd rs dis => some ⟨.word, some rd, disWValue dis, none, rs, disWLength dis⟩
  | .ldwIoa rs dis => some ⟨.word, none, disWValue dis, none, rs, disWLength dis⟩
  | .lddIod rd rs dis => some ⟨.double, some rd, disWValue dis, none, rs, disWLength dis⟩
  | .lddIoa rs dis => some ⟨.double, none, disWValue dis, none, rs, disWLength dis⟩
  | _ => none

/-- Stores to the I/O address space (40 R192, R193). -/
def Instr.ioStoreForm : Instr → Option Access
  | .stwIod rd rs dis => some ⟨.word, some rd, disWValue dis, none, rs, disWLength dis⟩
  | .stwIoa rs dis => some ⟨.word, none, disWValue dis, none, rs, disWLength dis⟩
  | .stdIod rd rs dis => some ⟨.double, some rd, disWValue dis, none, rs, disWLength dis⟩
  | .stdIoa rs dis => some ⟨.double, none, disWValue dis, none, rs, disWLength dis⟩
  | _ => none

/-- The loads and stores of spec/40. -/
def Instr.accessesMemory (i : Instr) : Bool :=
  i.loadForm.isSome || i.storeForm.isSome || i.ioLoadForm.isSome || i.ioStoreForm.isSome ||
    (match i with
      | .ldwS _ _ _ => true
      | .stwS _ _ _ => true
      | _ => false)

/-- MOV and MOVI, which reach the high global registers with H = 1 (41 R243). -/
def Instr.isMove : Instr → Bool
  | .mov _ _ => true
  | .movi _ _ => true
  | _ => false

/-- A global register code stands in the encoding (30 R131 to R144): format by format, in the fields that have a bank bit. -/
def Instr.namesGlobal (i : Instr) : Bool :=
  let h := (encode i).headD 0
  let op := h.toNat / 256
  let d := !h.getLsbD 9
  let s := !h.getLsbD 8
  if op ≤ 0x5F ∨ (0x90 ≤ op ∧ op ≤ 0x9F) ∨ (0xB0 ≤ op ∧ op ≤ 0xB7) ∨ (0xBC ≤ op ∧ op ≤ 0xBF) then d || s
  else if (0x60 ≤ op ∧ op ≤ 0x7F) ∨ (0xA0 ≤ op ∧ op ≤ 0xBB) then d
  else if (0xD0 ≤ op ∧ op ≤ 0xDF) ∨ op = 0xEE ∨ op = 0xEF then s
  else false

/-- What must not follow a Delayed Branch (93 U36): Branch, Call, Trap, Return, Software instruction, FETCH, and what makes an implicit branch of the
PC as destination (45 R353), which a MOV or MOVI does with H = 0. -/
def Instr.mustNotDelay (i : Instr) (h : Bool) : Bool :=
  i.branchForm.isSome || i.trapForm.isSome || i.softwareForm.isSome ||
    match i with
    | .call _ _ _ => true
    | .ret _ => true
    | .fetch _ => true
    | .mov rd _ => rd.isPc && !h
    | .movi rd _ => rd.isPc && !h
    | .add rd _ => rd.isPc
    | .addi rd _ => rd.isPc
    | .addiCz rd => rd.isPc
    | .sum rd _ _ => rd.isPc
    | .sub rd _ => rd.isPc
    | _ => false

/-- The register Rd that takes an instruction's result, or the first of the pair that does; a load's data register is none here. -/
def Instr.dest : Instr → Option Reg
  | .mov rd _ => some rd
  | .movi rd _ => some rd
  | .add rd _ => some rd
  | .adds rd _ => some rd
  | .addc rd _ => some rd
  | .addi rd _ => some rd
  | .addsi rd _ => some rd
  | .addiCz rd => some rd
  | .addsiCz rd => some rd
  | .sum rd _ _ => some rd
  | .sums rd _ _ => some rd
  | .sub rd _ => some rd
  | .subs rd _ => some rd
  | .subc rd _ => some rd
  | .neg rd _ => some rd
  | .negs rd _ => some rd
  | .and rd _ => some rd
  | .andn rd _ => some rd
  | .or rd _ => some rd
  | .xor rd _ => some rd
  | .not rd _ => some rd
  | .andni rd _ => some rd
  | .ori rd _ => some rd
  | .xori rd _ => some rd
  | .mask rd _ _ => some rd
  | .mul rd _ => some rd
  | .xm1 rd _ _ => some rd
  | .xm2 rd _ _ => some rd
  | .xm4 rd _ _ => some rd
  | .xm8 rd _ _ => some rd
  | .xx1 rd _ _ => some rd
  | .xx2 rd _ _ => some rd
  | .xx4 rd _ _ => some rd
  | .xx8 rd _ _ => some rd
  | .shri rd _ => some rd
  | .sari rd _ => some rd
  | .shli rd _ => some rd
  | .setadr rd => some rd
  | .movd rd _ => some rd
  | .muls rd _ => some rd
  | .mulu rd _ => some rd
  | .divs rd _ => some rd
  | .divu rd _ => some rd
  | .set1 rd => some rd
  | .set0 rd => some rd
  | .setle rd => some rd
  | .setgt rd => some rd
  | .setlt rd => some rd
  | .setge rd => some rd
  | .setse rd => some rd
  | .setht rd => some rd
  | .setst rd => some rd
  | .sethe rd => some rd
  | .sete rd => some rd
  | .setne rd => some rd
  | .setv rd => some rd
  | .setnv rd => some rd
  | .set1M rd => some rd
  | .setleM rd => some rd
  | .setgtM rd => some rd
  | .setltM rd => some rd
  | .setgeM rd => some rd
  | .setseM rd => some rd
  | .sethtM rd => some rd
  | .setstM rd => some rd
  | .setheM rd => some rd
  | .seteM rd => some rd
  | .setneM rd => some rd
  | .setvM rd => some rd
  | .setnvM rd => some rd
  | .shl ld _ => some (.l ld)
  | .sar ld _ => some (.l ld)
  | .shr ld _ => some (.l ld)
  | .rol ld _ => some (.l ld)
  | .testlz ld _ => some (.l ld)
  | .shld ld _ => some (.l ld)
  | .sard ld _ => some (.l ld)
  | .shrd ld _ => some (.l ld)
  | .shldi ld _ => some (.l ld)
  | .sardi ld _ => some (.l ld)
  | .shrdi ld _ => some (.l ld)
  | _ => none

/-- The result is a double-word in Rd//Rdf or Ld//Ldf. -/
def Instr.isPair : Instr → Bool
  | .movd _ _ => true
  | .muls _ _ => true
  | .mulu _ _ => true
  | .divs _ _ => true
  | .divu _ _ => true
  | .shld _ _ => true
  | .sard _ _ => true
  | .shrd _ _ => true
  | .shldi _ _ => true
  | .sardi _ _ => true
  | .shrdi _ _ => true
  | _ => false

end Sys2Proof

namespace Sys2Proof.Machine

/-! ## Memory accesses -/

/-- A global register code stands in the instruction: in absolute mode the SR code does. -/
def Access.global (x : Access) : Bool := (match x.base with | none => true | some r => r.isGlobal) || x.data.isGlobal

/-- The address register may hold the PC but not the SR; a mode that writes it excludes both (40 R175, R218). -/
def Access.encodable (x : Access) : Bool :=
  match x.base with
  | none => true
  | some r => !r.isSr && (x.bump.isNone || !r.isPc)

/-- The content of the address register; in absolute mode the displacement, which no Pointer Error looks at (40 R173). -/
def Access.baseOf (x : Access) (s : State) : Word :=
  match x.base with
  | none => x.dis
  | some r => s.operand x.len r

/-- The address accessed (40 R175). -/
def Access.addressOf (x : Access) (s : State) : Word :=
  match x.base with
  | none => x.dis
  | some r => s.operand x.len r + x.dis

/-- The address register advanced, in the modes that do so (40 R175). -/
def Access.advance (x : Access) (s t : State) : State :=
  match x.base, x.bump with
  | some r, some d => t.put r (s.operand x.len r + d)
  | _, _ => t

/-- The address register holds zero: Pointer Error (40 R173). -/
def Access.nullPointer (x : Access) (s : State) : Bool := x.base.isSome && x.baseOf s == 0

/-- The register can be loaded from memory: PC, SR, G14 and G15 cannot, nor the second word of a double-word go there (93 U30). -/
def Access.loadable (x : Access) : Bool :=
  match x.data with
  | .l _ => true
  | .g c => decide (2 ≤ c.toNat) && decide (c.toNat ≤ 13) && !(x.type.isDouble && c == 13#4)

/-- A read of an address is not refused: both it and the base lie in IRAM or neither does (93 U21), and the bus configuration gives it a
meaning (93 U20, U52, U53, 70 R584). -/
def State.readable (s : State) (base a : Word) : Prop := iramRefusal base a = none ∧ s.readRefusal a = none

/-- A write of an address is not refused (93 U21, U52, U53, 70 R584). -/
def State.storable (s : State) (base a : Word) : Prop := iramRefusal base a = none ∧ s.areaRefusal (areaOf a) = none

/-- The stored word of a register operand: zero for the SR code (40 R177). -/
def State.stored (s : State) (len : Nat) (r : Reg) : Word := if r.isSr then 0 else s.operand len r

/-- A word, half-word or byte written: a configuration write where the address is one (20_memory R99), which takes the address of the access, its
low bits ignored (R93; log 15), otherwise a store. -/
def State.written (t : State) (z : Size) (a v : Word) : State :=
  if isSdramConfig t.bus.mcr a then t.sdramConfig (z.align a) else t.store z a v

/-- The register that the address SP names pushed there, and SP advanced (45 R371). -/
def State.pushOne (t : State) : State := { t.written .word t.sp (t.readAbsolute t.sp) with sp := t.sp + 4 }

/-- `k` registers pushed (45 R371). -/
def State.pushed : Nat → State → State
  | 0, t => t
  | k + 1, t => State.pushed k t.pushOne

/-- One word pulled from SP - 4 into the register that its address names (45 R382). -/
def State.pullOne (t : State) : State :=
  ({ t.afterRead .word (t.sp - 4) with sp := t.sp - 4 } : State).writeAbsolute (t.sp - 4) (t.valueAt .word (t.sp - 4))

/-- `k` words pulled (45 R382). -/
def State.pulled : Nat → State → State
  | 0, t => t
  | k + 1, t => State.pulled k t.pullOne

/-- The half-words of code at an address: their words can be read, memory holds them, and so does the cache where it holds their words. -/
def State.holdsCode (s : State) (a : Word) (hs : List Half) : Prop :=
  ∀ k h, hs[k]? = some h →
    let p := a + BitVec.ofNat 32 (2 * k)
    s.readRefusal (wordAddress p) = none ∧
    s.byteAt p = some (h.extractLsb' 8 8) ∧ s.byteAt (p + 1) = some (h.extractLsb' 0 8) ∧
    (s.cache.holds (wordAddress p) = true → s.cache.half p = h)

/-- The branch target counts as being in the cache (20_memory R116): that of a backward branch not below the look-back counter, that of a forward
branch not more than two words above the look-ahead counter, as words (log 53). -/
def Cache.inReach (c : Cache) (rel : Rel) (target : Word) : Bool :=
  if (relValue rel).toInt < 0 then decide (0 ≤ (wordAddress target - c.lookBack).toInt)
  else decide (0 ≤ (c.lookAhead + 8 - wordAddress target).toInt)

/-- The timer after `k` processor cycles. -/
def Timer.after : Nat → Timer → Timer
  | 0, t => t
  | k + 1, t => Timer.after k t.cycle

/-- The address that a device sees: A25..A0 on the E1-32XS, A21..A0 on the E1-16XS (20_memory R109). -/
def State.devicePins (t : State) (a : Word) : Word :=
  match t.platform.variant with
  | .e1_32xs _ => 0#6 ++ a.extractLsb' 0 26
  | .e1_16xs _ => 0#10 ++ a.extractLsb' 0 22

/-- One word read from an I/O address, none where it is internal and undefined (20_memory R108 to R110): what the device answers, with the access
noted, or any value from the power addresses. -/
def State.ioLoaded (t : State) (a : Word) : Option (Word × State) :=
  if a.getLsbD 27 = false then some (Config.ioRead t.ioLog (t.devicePins a), { t with ioLog := .read (t.devicePins a) :: t.ioLog })
  else if a.extractLsb' 23 3 = 7 then some (Config.freeWord t.draws, { t with draws := t.draws + 1 })
  else none

/-- One word written to an I/O address (20_memory R108 to R110, 61 R540, R543). -/
def State.ioStored (t : State) (a v : Word) : Option State :=
  if a.getLsbD 27 = false then some { t with ioLog := .write (t.devicePins a) v :: t.ioLog }
  else if a.extractLsb' 23 3 = 7 then some { t with power := if a.getLsbD 22 then .sleep else .powerDown }
  else none

/-- The byte address `b` lies in the cell of one of the bytes that an access of the size at `a` covers. -/
def State.covers (s : State) (z : Size) (a b : Word) : Prop :=
  ∃ k, k < z.bytes ∧ s.cellOf b = s.cellOf (z.align a + BitVec.ofNat 32 k)

end Sys2Proof.Machine
end

