-- ==== Sys2Proof/Certificates/Slice0/Obligations.lean ====
section
/-! DEFINITION. Certificates/Slice0/Obligations.lean: the statements for the provers. OBLIGATIONS.json says of each what it claims and which
rules of spec/ it rests on. The words they use are those of Safety.lean. -/

open Sys2Proof Sys2Proof.Machine

/-! ## Encoding -/

/-- Every well-formed instruction is what the decoder reads from its half-words. -/
def Obligations.DecodeInvertsEncode : Prop :=
  ∀ i : Instr, i.wellFormed = true → decodeHalves (encode i) = .ok i

/-- What the decoder reads is well-formed, and its encoding is the half-words it was read from: no two encodings of one instruction. -/
def Obligations.EncodeInvertsDecode : Prop :=
  ∀ (h1 h2 h3 : Half) (i : Instr), decode h1 h2 h3 = .ok i →
    i.wellFormed = true ∧ encode i = [h1, h2, h3].take (lengthOf h1 h2)

/-- Words written out from the examples of spec/41 to 47 decode to the instructions they stand for. -/
def Obligations.SpecWordsDecode : Prop :=
  decode 0x2712 0 0 = .ok (.mov (.l 1) (.l 2)) ∧
  decode 0x6701 0x1234 0x5678 = .ok (.movi (.l 0) (.word 0x12345678)) ∧
  decode 0x1712 0x7F00 0 = .ok (.mask (.l 1) (.l 2) (.short 0x7F00)) ∧
  decode 0xAA14 0 0 = .ok (.shli (.l 1) 4) ∧
  decode 0x1312 0xB001 0x2345 = .ok (.xm8 (.l 1) (.l 2) (.long 0x12345)) ∧
  decode 0x9323 0x7FFC 0 = .ok (.ldwD (.l 2) (.l 3) (.short 0x7FF)) ∧
  decode 0x9113 0x7F00 0 = .ok (.ldwA (.l 3) (.short 0x7C0)) ∧
  decode 0xD112 0 0 = .ok (.ldwR 1 (.l 2)) ∧
  decode 0xCE12 0x010A 0 = .ok (.emac 1 2) ∧
  decode 0xEE31 0x2100 0 = .ok (.call 3 (.g 1) (.short 0x2100)) ∧
  decode 0xFFFF 0 0 = .ok (.trap 63) ∧
  decode 0 0 0 = .ok (.chk (.g 0) (.g 0)) ∧
  decode 0x0300 0 0 = .ok .nop

/-- The reserved and undefined encodings are refused by name, each group whole (30 R151; the next-address modes with the PC or SR as Rd: 93 U32),
and nothing else is refused: OP-codes 8C, 8D and AC to AF; RET with the PC or SR as source; XMx and XXx with the SR as source or the PC or SR as
destination; 94 to 97 and 9C to 9F with the PC or SR as Rd, and with any other Rd D-code 3 with dis(1..0) = 10, whatever else the
displacement is; B8 to BB with the PC as Rd, with the SR as Rd and an odd n (FETCH), with any other Rd and n = 1, 16, 17, 19 (SETxx); EXTEND with a
code outside the table of R149. -/
def Obligations.ReservedEncodingsRefused : Prop :=
  ∀ h1 h2 h3 : Half,
    let op := h1.extractLsb' 10 6
    let rdIs (c : BitVec 4) : Prop := h1.getLsbD 9 = false ∧ h1.extractLsb' 4 4 = c
    let rsIs (c : BitVec 4) : Prop := h1.getLsbD 8 = false ∧ h1.extractLsb' 0 4 = c
    let n : BitVec 5 := h1.extractLsb' 8 1 ++ h1.extractLsb' 0 4
    let low := (if h2.getLsbD 15 then h3 else h2).extractLsb' 0 2
    let opcode := h1.extractLsb' 8 8 ∈ [0x8C#8, 0x8D#8, 0xAC#8, 0xAD#8, 0xAE#8, 0xAF#8]
    let returnSource := op = 0x01#6 ∧ rdIs 0 ∧ (rsIs 0 ∨ rsIs 1)
    let indexOperand := op = 0x04#6 ∧ (rsIs 1 ∨ rdIs 0 ∨ rdIs 1)
    let nextAddressPcSr := (op = 0x25#6 ∨ op = 0x27#6) ∧ (rdIs 0 ∨ rdIs 1)
    let dCode := (op = 0x25#6 ∨ op = 0x27#6) ∧ ¬rdIs 0 ∧ ¬rdIs 1 ∧ h2.extractLsb' 12 2 = 3#2 ∧ low = 2#2
    let setPc := op = 0x2E#6 ∧ rdIs 0
    let fetchOdd := op = 0x2E#6 ∧ rdIs 1 ∧ n.getLsbD 0 = true
    let setCode := op = 0x2E#6 ∧ ¬rdIs 0 ∧ ¬rdIs 1 ∧ n ∈ [1#5, 16#5, 17#5, 19#5]
    let extendCode := h1.extractLsb' 8 8 = 0xCE#8 ∧
      h2 ∉ [0x102, 0x104, 0x106, 0x10A, 0x10E, 0x11A, 0x11E, 0x2A, 0x2E, 0x46, 0x4E, 0x86, 0x96, 0x296]
    (opcode → decode h1 h2 h3 = .reserved .opcode) ∧ (returnSource → decode h1 h2 h3 = .reserved .returnSource) ∧
    (indexOperand → decode h1 h2 h3 = .reserved .indexOperand) ∧
    (nextAddressPcSr → decode h1 h2 h3 = .reserved .nextAddressPcSr) ∧ (dCode → decode h1 h2 h3 = .reserved .dCode) ∧
    (setPc → decode h1 h2 h3 = .reserved .setPc) ∧ (fetchOdd → decode h1 h2 h3 = .reserved .fetchOdd) ∧
    (setCode → decode h1 h2 h3 = .reserved .setCode) ∧ (extendCode → decode h1 h2 h3 = .reserved .extendCode) ∧
    (∀ why, decode h1 h2 h3 = .reserved why →
      opcode ∨ returnSource ∨ indexOperand ∨ nextAddressPcSr ∨ dCode ∨ setPc ∨ fetchOdd ∨ setCode ∨ extendCode)

/-- The immediate operand by n, with its length in half-words (30 R145): the table; which instruction uses it, with n = 0 for CZ and ANYBZ; n = 31,
where two immediates of equal length and value are the same to every instruction that uses them; and the n of shifts and SETxx, which does
not go through the table. -/
def Obligations.ImmediateTable : Prop :=
  ∀ (n : BitVec 5) (h2 h3 : Half) (rd : Reg),
    let imm := Imm.decode n h2 h3
    let is (v : Word) (len : Nat) : Prop := immValue imm = v ∧ immMaskValue imm = v ∧ immLength imm = len
    (n.toNat ≤ 16 → is (BitVec.ofNat 32 n.toNat) 1) ∧
    (n = 17 → is (h2 ++ h3) 3) ∧ (n = 18 → is (0#16 ++ h2) 2) ∧ (n = 19 → is (0xFFFF#16 ++ h2) 2) ∧
    (n = 20 → is 32 1) ∧ (n = 21 → is 64 1) ∧ (n = 22 → is 128 1) ∧ (n = 23 → is 0x80000000 1) ∧
    (24 ≤ n.toNat → n.toNat ≤ 30 → is (BitVec.ofInt 32 (n.toNat - 32)) 1) ∧
    (n = 31 → immLength imm = 1 ∧ immValue imm = 0xFFFFFFFF ∧ immMaskValue imm = 0x7FFFFFFF) ∧
    (∀ op ∈ [0x18#6, 0x19#6, 0x1A#6, 0x1B#6, 0x1C#6, 0x1D#6, 0x1E#6, 0x1F#6], lengthOf (hwRn op rd n) h2 = immLength imm) ∧
    (decode (hwRn 0x18#6 rd n) h2 h3 = .ok (.cmpi rd imm) ∧ decode (hwRn 0x19#6 rd n) h2 h3 = .ok (.movi rd imm) ∧
      decode (hwRn 0x1A#6 rd n) h2 h3 = .ok (if n = 0 then .addiCz rd else .addi rd imm) ∧
      decode (hwRn 0x1B#6 rd n) h2 h3 = .ok (if n = 0 then .addsiCz rd else .addsi rd imm) ∧
      decode (hwRn 0x1C#6 rd n) h2 h3 = .ok (if n = 0 then .cmpbiAnybz rd else .cmpbi rd imm) ∧
      decode (hwRn 0x1D#6 rd n) h2 h3 = .ok (.andni rd imm) ∧ decode (hwRn 0x1E#6 rd n) h2 h3 = .ok (.ori rd imm) ∧
      decode (hwRn 0x1F#6 rd n) h2 h3 = .ok (.xori rd imm)) ∧
    (∀ (j : Imm) (s : State), immLength j = immLength imm →
      (immMaskValue j = immMaskValue imm → exec (.cmpbi rd j) s = exec (.cmpbi rd imm) s ∧ exec (.andni rd j) s = exec (.andni rd imm) s) ∧
      (immValue j = immValue imm →
        exec (.cmpi rd j) s = exec (.cmpi rd imm) s ∧ exec (.movi rd j) s = exec (.movi rd imm) s ∧
        exec (.addi rd j) s = exec (.addi rd imm) s ∧ exec (.addsi rd j) s = exec (.addsi rd imm) s ∧
        exec (.ori rd j) s = exec (.ori rd imm) s ∧ exec (.xori rd j) s = exec (.xori rd imm) s)) ∧
    (decode (hwRn 0x28#6 rd n) h2 h3 = .ok (.shri rd n) ∧ decode (hwRn 0x29#6 rd n) h2 h3 = .ok (.sari rd n) ∧
      decode (hwRn 0x2A#6 rd n) h2 h3 = .ok (.shli rd n) ∧
      (∀ ld, decode (hwLn 0x40#7 ld n) h2 h3 = .ok (.shrdi ld n) ∧ decode (hwLn 0x42#7 ld n) h2 h3 = .ok (.sardi ld n) ∧
        decode (hwLn 0x44#7 ld n) h2 h3 = .ok (.shldi ld n)) ∧
      decode (hwRn 0x2E#6 rd n) h2 h3 = decode (hwRn 0x2E#6 rd n) 0 0)

/-- The conditions as functions of C, Z, N, V (45 R351); `always` is that of BR and TRAP. -/
def Obligations.ConditionsReadTheFlags : Prop :=
  ∀ c z n v : Bool, let f : Flags := { c := c, z := z, n := n, v := v }
    (Cond.le.holds f = true ↔ n = true ∨ z = true) ∧ (Cond.gt.holds f = true ↔ n = false ∧ z = false) ∧
    (Cond.n.holds f = true ↔ n = true) ∧ (Cond.nn.holds f = true ↔ n = false) ∧
    (Cond.se.holds f = true ↔ c = true ∨ z = true) ∧ (Cond.ht.holds f = true ↔ c = false ∧ z = false) ∧
    (Cond.c.holds f = true ↔ c = true) ∧ (Cond.nc.holds f = true ↔ c = false) ∧
    (Cond.e.holds f = true ↔ z = true) ∧ (Cond.ne.holds f = true ↔ z = false) ∧
    (Cond.v.holds f = true ↔ v = true) ∧ (Cond.nv.holds f = true ↔ v = false) ∧ Cond.always.holds f = true

/-! ## The step -/

/-- A running processor that is not being reset and that finds the half-words of an instruction at the fetch address, the same in memory and in the
cache, executes that instruction; then, but in sleep, the devices run and the boundary is examined. Before it come the environment's input and
the fetch, which loads the cache: beyond an instruction at the PC eight words are available, where their reads are not refused (20 R115), and
a Parity Error is pended only where a parity check fails; a flush that waited for a delay instruction is done (R118, log 18). Nothing
else changes but the number of free values used. -/
def Obligations.StepRunsDecoded : Prop :=
  ∀ (s : State) (i : Instr) (hs : List Half),
    s.power = .running → s.input.resetPin = false → s.cache.wf = true →
    s.sense.fetchAddress.getLsbD 0 = false →
    decodeHalves hs = .ok i → hs.length = lengthOf (hs.getD 0 0) (hs.getD 1 0) →
    s.sense.holdsCode s.sense.fetchAddress hs →
    ∃ (c : Cache) (d : Nat) (p : Bool), let t : State := { s.sense with cache := c, draws := d, parityPending := p }
      step s = (andThen (exec i t) fun u => if u.power = .sleep then .next u else u.elapse s.input.cycles) ∧
      c.wf = true ∧ ((∀ area, s.sense.parityHit area = false) → p = s.parityPending) ∧
      ((∀ slot, s.delay ≠ .taken slot) → s.cache.flushAfterSlot = false →
        ∀ k, k ≤ 8 → (∀ j, j ≤ k → s.readRefusal (wordAddress s.pc + BitVec.ofNat 32 (4 * j)) = none) →
          c.holds (wordAddress s.pc + BitVec.ofNat 32 (4 * k)) = true) ∧
      c.flushAfterSlot = false ∧ (s.cache.flushAfterSlot = true → c.lookBack = wordAddress s.pc)

/-- Every step keeps the invariant. -/
def Obligations.StepKeepsInvariant : Prop :=
  ∀ s t : State, s.Inv → step s = .next t → t.Inv

/-- The state after reset has the invariant. -/
def Obligations.ResetHasInvariant : Prop := State.reset.Inv

/-- What a reset from the RESET# pin leaves where the spec says it (10_state R76 to R78; H and the pended conditions: the spec's decisions D11,
D12), with the boot pins at 8 bits (log 3). -/
def Obligations.ResetState : Prop :=
  let r := State.reset
  r.pc = 0xFFFFFFF8 ∧ r.sr.s = true ∧ r.sr.l = true ∧ r.sr.t = false ∧ r.sr.m = false ∧ r.sr.fl = 2 ∧ r.sr.h = false ∧
  r.bus.bcr = 0xFFFFFFFF ∧ r.bus.mcr = 0xFFFFFFFF ∧ r.bus.sdcr = 0xFFFFFFFF ∧ r.fcr = 0xFFFFFFFF ∧
  r.timer.tpr.extractLsb' 26 3 = 3 ∧ r.timer.tpr.extractLsb' 16 8 = 0 ∧
  r.clockOnFlag = false ∧ r.watchdogFlag = false ∧ r.io3.eventFlag = false ∧ r.io3.equalFlag = false ∧
  r.eovPending = false ∧ r.parityPending = false ∧ r.delay = .none ∧ r.callLockout = false ∧ r.power = .running

/-- A reset of a machine in any state (10_state R76, 60 R473; H and the pended conditions: the spec's decisions D11, D12): a pulse on RESET# resets
whatever else is going on; the three causes differ in the FCR, the TPR, ISR(10..9), the IO3 flags (61 R531) and memory: RESET#, also out of sleep, and
the wakeup from sleep leave the memory on the chip, and MEM0 as DRAM, with any content (70 R583, 61 R544); that the watchdog's reset keeps them is the
model's choice (log 33), and so is that no store made before is lost (70 R581; log 55). The cache is flushed (20 R118). -/
def Obligations.ResetOfAnyState : Prop :=
  (∀ s : State, s.input.resetPin = true → step s = .next (s.sense.resetException .pin)) ∧
  (∀ (s : State) (c : ResetCause), let t := s.resetException c
    t.pc = 0xFFFFFFF8 ∧ t.sr.s = true ∧ t.sr.l = true ∧ t.sr.t = false ∧ t.sr.m = false ∧ t.sr.fl = 2 ∧ t.sr.h = false ∧
    t.bus.bcr = 0xFFFFFFFF ∧ t.bus.sdcr = 0xFFFFFFFF ∧ t.bus.mcr.extractLsb' 8 24 = 0xFFFFFF ∧ t.bus.mcr.extractLsb' 0 6 = 0x3F ∧
    t.bus.mcr.extractLsb' 6 2 = (match s.platform.variant with
      | .e1_32xs .w8 => 3#2 | .e1_32xs .w16 => 2#2 | .e1_32xs .w32 => 0#2 | .e1_16xs true => 3#2 | .e1_16xs false => 2#2) ∧
    t.fcr = (if c = .clockDown then s.fcr else 0xFFFFFFFF) ∧
    (c = .watchdog → t.timer.tpr = s.timer.tpr) ∧
    (c ≠ .watchdog → t.timer.tpr.extractLsb' 26 3 = 3 ∧ t.timer.tpr.extractLsb' 16 8 = 0) ∧
    t.clockOnFlag = (c == .clockDown) ∧ t.watchdogFlag = (c == .watchdog) ∧
    (c ≠ .clockDown → t.io3.eventFlag = false ∧ t.io3.equalFlag = false ∧ t.io3.toggleLatch = false) ∧
    t.eovPending = false ∧ t.parityPending = false ∧ t.delay = .none ∧ t.callLockout = false ∧ t.power = .running ∧
    t.cache = s.cache.flush 0xFFFFFFF8 ∧ t.platform = s.platform ∧ t.schedule = s.schedule ∧
    (∀ cell : Nat, let lost := (0xC0000000 ≤ cell ∧ cell < 0xE0000000) ∨ (s.bus.mcr.getLsbD 21 = false ∧ cell < 0x40000000)
      (c ≠ .watchdog → lost → ∃ k, Memory.get t.lost.blank t.mem cell = Config.lostByte k cell) ∧
      (c = .watchdog ∨ ¬lost → Memory.get t.lost.blank t.mem cell = Memory.get s.lost.blank s.mem cell)))

/-! ## Exceptions -/

/-- The entry of trap number t (60 R465, R466) and that of the Software instruction with OP(11..8) = op (47 R431): with MCR(14..12) = 111 at the end
of MEM3, with 000 to 011 reversed at the beginning of MEM0, MEM1, MEM2 or IRAM; the reserved codes have none (93 U40). -/
def Obligations.EntryAddresses : Prop :=
  ∀ (mcr : Word) (t : BitVec 6) (op : BitVec 4),
    (mcr.extractLsb' 12 3 = 7#3 →
      trapEntry mcr t = .next (0xFFFFFF#24 ++ t ++ 0#2) ∧ softwareEntry mcr op = .next (0x7FFFFF#23 ++ 0#1 ++ op ++ 0#4)) ∧
    (mcr.getLsbD 14 = false →
      trapEntry mcr t = .next (mcr.extractLsb' 12 2 ++ 0#22 ++ ~~~t ++ 0#2) ∧
      softwareEntry mcr op = .next (mcr.extractLsb' 12 2 ++ 0#21 ++ 1#1 ++ ~~~op ++ 0xC#4)) ∧
    (mcr.getLsbD 14 = true → mcr.extractLsb' 12 3 ≠ 7#3 →
      trapEntry mcr t = .refused .entryTableReserved ∧ softwareEntry mcr op = .refused .entryTableReserved)

/-- Taking an exception (60 R470, R472, R481): the return address with S in bit 0 and the whole SR, its ILC as it stands, go to the two registers
above the frame; the frame moves there with FL = 2; M, T and H (D21) are cleared, L and S set, I set at an interrupt; nothing else changes. -/
def Obligations.ExceptionEntry : Prop :=
  ∀ (s : State) (n : BitVec 6) (e ret : Word) (interrupt : Bool), trapEntry s.bus.mcr n = .next e →
    let k := if s.sr.fl = 0 then 16 else s.sr.fl.toNat
    s.takeException n ret interrupt = .next
      { s with
        pc := e &&& 0xFFFFFFFE
        sr := { s.sr with
          fp := s.sr.fp + BitVec.ofNat 7 k, fl := 2, m := false, t := false, h := false, l := true, s := true
          i := s.sr.i || interrupt }
        locals := (s.locals.set ((s.sr.fp.toNat + k) % 64) (ret.extractLsb' 1 31 ++ BitVec.ofBool s.sr.s)
          (Nat.mod_lt _ (by decide))).set ((s.sr.fp.toNat + (k + 1)) % 64) s.sr.toWord (Nat.mod_lt _ (by decide))
        delay := .none
        callLockout := false
        cache := s.cache.flush e }

/-- What is taken between two instructions (60 R480, D8, log 31): nothing while a delay instruction is outstanding or after a Call, and
nothing in sleep (61 R544); otherwise, with L = 0, Extended Overflow, else Parity Error, else the interrupt of the highest priority; where none of
these, Trace with T = P = 1. In power-down, after the store that enters it, the same is taken, and an active request ends power-down whatever L (61
R541, D26); that another exception is entered there and leaves the processor in power-down is the model's choice (log 32, DEDUCED, unsafe). -/
def Obligations.BoundaryOrder : Prop :=
  ∀ s : State,
    let w : State := if s.power = .powerDown ∧ s.interrupt ≠ none then { s with power := .running } else s
    (s.power = .sleep ∨ s.delay ≠ .none ∨ s.callLockout = true → s.boundary = .next s) ∧
    (s.power ≠ .sleep → s.delay = .none → s.callLockout = false →
      (s.sr.l = false → s.eovPending = true → s.boundary = ({ w with eovPending := false } : State).takeException 59 s.pc false) ∧
      (s.sr.l = false → s.eovPending = false → s.parityPending = true →
        s.boundary = ({ w with parityPending := false } : State).takeException 58 s.pc false) ∧
      (s.sr.l = false → s.eovPending = false → s.parityPending = false → ∀ x, s.interrupt = some x →
        s.boundary = w.takeException x.trap s.pc true) ∧
      (s.sr.l = true ∨ (s.eovPending = false ∧ s.parityPending = false ∧ s.interrupt = none) →
        s.boundary = if s.sr.t = true ∧ s.sr.p = true then w.takeException 57 s.pc false else .next w))

/-- The interrupt taken is an active request, and none of higher priority is active; where none is taken, none is active (60 R461, R462, R477); a
request of a pin, of the IO3 unit or of the timer is active where its conditions hold (60 R478; the timer's is a level: D17). -/
def Obligations.InterruptRequests : Prop :=
  ∀ s : State,
    (∀ x, s.interrupt = some x → s.requests x = true ∧ ∀ y, s.requests y = true → x.priority s.fcr ≤ y.priority s.fcr) ∧
    (s.interrupt = none → ∀ y, s.requests y = false) ∧
    (s.requests .int1 = true ↔ s.fcr.getLsbD 28 = false ∧ s.pins.int1 = s.fcr.getLsbD 24) ∧
    (s.requests .int2 = true ↔ s.fcr.getLsbD 29 = false ∧ s.pins.int2 = s.fcr.getLsbD 25) ∧
    (s.requests .int3 = true ↔ s.fcr.getLsbD 30 = false ∧ s.pins.int3 = s.fcr.getLsbD 26) ∧
    (s.requests .int4 = true ↔ s.fcr.getLsbD 31 = false ∧ s.pins.int4 = s.fcr.getLsbD 27) ∧
    (s.requests .io1 = true ↔ s.fcr.getLsbD 2 = true ∧ s.fcr.getLsbD 0 = false ∧ s.pins.io1 = s.fcr.getLsbD 1) ∧
    (s.requests .io2 = true ↔ s.fcr.getLsbD 6 = true ∧ s.fcr.getLsbD 4 = false ∧ s.pins.io2 = s.fcr.getLsbD 5) ∧
    (s.requests .timer = true ↔ s.fcr.getLsbD 23 = false ∧ (s.timer.tr - s.timer.tcr).getLsbD 31 = false) ∧
    (s.fcr.getLsbD 13 = true → (s.requests .io3 = true ↔
      s.fcr.getLsbD 10 = true ∧ s.fcr.getLsbD 8 = false ∧ s.pins.io3 = s.fcr.getLsbD 9)) ∧
    (s.fcr.extractLsb' 12 2 = 1 → (s.requests .io3 = true ↔
      s.fcr.getLsbD 8 = false ∧ (s.io3.eventFlag = true ∨ s.io3.equalFlag = true))) ∧
    (s.fcr.extractLsb' 12 2 = 0 → (s.requests .io3 = true ↔
      s.io3.equalFlag = true ∨ (s.fcr.getLsbD 10 = true ∧ s.fcr.getLsbD 8 = false ∧ s.pins.io3 = s.fcr.getLsbD 9)))

/-- The timer counts once in TPR(23..16) + 2 processor cycles, and a TPR that waits takes effect there (61 R521, R522, log 29); the IO3 unit by its
mode (61 R530, R531, R533 to R535; the latch toggles once while WCR and TR stay equal: log 30): IO3Timing as input captures TR in the WCR at
the event and flags the equality before it, as output flags the equality and toggles the latch, IO3TimerInterrupt flags it, the two other modes
set no flag; the running devices do this once before the first processor cycle and once after every cycle, each of which counts the timer; over
any number of cycles the watchdog fires exactly where its mode finds WCR and TR equal in one of them (61 R527), which resets a
running processor before anything at the boundary; power-down keeps the state, runs the devices and ends with an interrupt request, whatever L
(61 R541; the spec's decision D26, log 32); sleep ends with a request of a pin, in a reset (61 R544), by INT1 to INT4,
and by IO1 to IO3 as inputs, each under its mask and polarity; that IO3 has one in every mode by its level and in IO3Timing mode by the EventFlag,
and that neither the EqualFlag nor anything of the timer makes one, is the model's choice in what R544 leaves open (log 32, DEDUCED, unsafe). -/
def Obligations.TimerAndPower : Prop :=
  (∀ t : Timer,
    (t.prescaler + 1 < (t.tpr.extractLsb' 16 8).toNat + 2 → t.cycle = { t with prescaler := t.prescaler + 1 }) ∧
    ((t.tpr.extractLsb' 16 8).toNat + 2 ≤ t.prescaler + 1 →
      t.cycle.tr = t.tr + 1 ∧ t.cycle.prescaler = 0 ∧ t.cycle.tcr = t.tcr ∧ t.cycle.tprPending = none ∧
      (∀ v, t.tprPending = some v → t.cycle.tpr = v) ∧ (t.tprPending = none → t.cycle.tpr = t.tpr))) ∧
  (∀ s : State,
    let mode := s.fcr.extractLsb' 12 2
    let equal := s.io3.wcr == s.timer.tr.extractLsb' 0 16
    let seen (event equal toggle : Bool) (wcr : BitVec 16) : Prop := ∃ noted, s.io3Sample =
      { s with io3 := { wcr := wcr, eventFlag := event, equalFlag := equal, toggleLatch := toggle, equalSeen := noted } }
    (mode = 1 → s.fcr.getLsbD 10 = true → s.io3.eventFlag = true →
      seen true s.io3.equalFlag s.io3.toggleLatch s.io3.wcr) ∧
    (mode = 1 → s.fcr.getLsbD 10 = true → s.io3.eventFlag = false → s.pins.io3 = s.fcr.getLsbD 9 →
      seen true s.io3.equalFlag s.io3.toggleLatch (s.timer.tr.extractLsb' 0 16)) ∧
    (mode = 1 → s.fcr.getLsbD 10 = true → s.io3.eventFlag = false → s.pins.io3 ≠ s.fcr.getLsbD 9 →
      seen false (s.io3.equalFlag || equal) s.io3.toggleLatch s.io3.wcr) ∧
    (mode = 1 → s.fcr.getLsbD 10 = false →
      seen s.io3.eventFlag (s.io3.equalFlag || equal) (s.io3.toggleLatch ^^ (equal && !s.io3.equalSeen)) s.io3.wcr ∧
      s.io3Sample.io3.equalSeen = equal) ∧
    (mode = 0 → seen s.io3.eventFlag (s.io3.equalFlag || equal) s.io3.toggleLatch s.io3.wcr) ∧
    (mode = 2 ∨ mode = 3 → seen s.io3.eventFlag s.io3.equalFlag s.io3.toggleLatch s.io3.wcr)) ∧
  (∀ s : State, (s.clock 0).1 = s.io3Sample ∧
    ∀ k, (s.clock (k + 1)).1 = ({ (s.clock k).1 with timer := (s.clock k).1.timer.cycle } : State).io3Sample) ∧
  (∀ (s : State) (k : Nat),
    (s.clock k).1 = { s with timer := Timer.after k s.timer, io3 := (s.clock k).1.io3 } ∧
    (s.fcr.extractLsb' 12 2 = 2 → (s.clock k).1.io3 = { s.io3 with equalSeen := false } ∧
      ((s.clock k).2 = true ↔ ∃ j, j ≤ k ∧ s.io3.wcr = (Timer.after j s.timer).tr.extractLsb' 0 16)) ∧
    (s.fcr.extractLsb' 12 2 ≠ 2 → (s.clock k).2 = false) ∧
    ((s.clock k).2 = true → s.elapse k = .next ((s.clock k).1.resetException .watchdog)) ∧
    ((s.clock k).2 = false → s.elapse k = (s.clock k).1.boundary)) ∧
  (∀ s : State, s.input.resetPin = false → s.power = .powerDown →
    let c := s.sense.clock s.input.cycles
    (c.2 = true → step s = .next (c.1.resetException .watchdog)) ∧
    (c.2 = false → c.1.interrupt = none → step s = .next c.1) ∧
    (c.2 = false → c.1.interrupt ≠ none → step s = ({ c.1 with power := .running } : State).boundary)) ∧
  (∀ s : State, s.input.resetPin = false → s.power = .sleep →
    (s.sense.pinWake = true → step s = .next (s.sense.resetException .clockDown)) ∧
    (s.sense.pinWake = false → step s = .next s.sense)) ∧
  (∀ s : State,
    let pin (mask polarity : Nat) (level : Bool) : Prop := s.fcr.getLsbD mask = false ∧ level = s.fcr.getLsbD polarity
    (s.pinWake = true ↔
      pin 28 24 s.pins.int1 ∨ pin 29 25 s.pins.int2 ∨ pin 30 26 s.pins.int3 ∨ pin 31 27 s.pins.int4 ∨
      (s.fcr.getLsbD 2 = true ∧ pin 0 1 s.pins.io1) ∨ (s.fcr.getLsbD 6 = true ∧ pin 4 5 s.pins.io2) ∨
      (s.fcr.getLsbD 10 = true ∧
        (pin 8 9 s.pins.io3 ∨ (s.fcr.extractLsb' 12 2 = 1 ∧ s.fcr.getLsbD 8 = false ∧ s.io3.eventFlag = true)))) ∧
    (∀ (t : Timer) (u : Io3), u.eventFlag = s.io3.eventFlag → ({ s with timer := t, io3 := u } : State).pinWake = s.pinWake))

/-! ## Whole-machine rules -/

/-- No instruction takes the processor from user to supervisor state but through an entry of the table of 64, with L set (60 R503). -/
def Obligations.UserStateLeftByEntriesOnly : Prop :=
  ∀ (i : Instr) (s t : State), s.sr.s = false → exec i s = .next t → t.sr.s = true →
    t.sr.l = true ∧ ∃ (n : BitVec 6) (e : Word), trapEntry s.bus.mcr n = .next e ∧ t.pc = e &&& 0xFFFFFFFE

/-- No instruction executed in user state changes UB, BCR, TPR, TCR, TR, WCR, FCR or MCR (60 R502 (a)), or sets L but by entering a supervisor or
Software subprogram (R502 (b); L is written before the Privilege Error: D9). -/
def Obligations.UserStateCannotConfigure : Prop :=
  ∀ (i : Instr) (s t : State), s.sr.s = false → exec i s = .next t →
    t.ub = s.ub ∧ t.bus.bcr = s.bus.bcr ∧ t.bus.mcr = s.bus.mcr ∧ t.timer = s.timer ∧ t.io3 = s.io3 ∧ t.fcr = s.fcr ∧
    (s.sr.l = false → t.sr.l = true → t.sr.s = true ∨ i.softwareForm.isSome = true)

/-- An instruction leaves H set only by writing the SR: as its destination Rd, which it can name only with H = 0, or by a Return
(10_state R32). -/
def Obligations.HighGlobalFlagLastsOneInstruction : Prop :=
  ∀ (i : Instr) (s t : State), exec i s = .next t → t.sr.h = true →
    (∃ rs, i = .ret rs) ∨ (s.sr.h = false ∧ i.dest = some (.g 1))

/-- Every instruction but the Return sets P (10_state R40; it is not ordered against the save but by D10). -/
def Obligations.EveryInstructionSetsTracePending : Prop :=
  ∀ (i : Instr) (s t : State), exec i s = .next t → t.sr.p = true ∨ ∃ rs, i = .ret rs

/-- A load or store leaves every field of the SR but ILC, P and H as it was, before the error exception that it may raise, and that exception leaves
the condition flags too (40 R172). -/
def Obligations.MemoryInstructionsKeepTheFlags : Prop :=
  ∀ (i : Instr) (s t : State), i.accessesMemory = true → exec i s = .next t →
    (t.sr.c = s.sr.c ∧ t.sr.z = s.sr.z ∧ t.sr.n = s.sr.n ∧ t.sr.v = s.sr.v) ∧
    ∃ u : State, (t = u.settle s.delay ∨ s.raises u = .next t) ∧ u.sr = { s.sr with p := true, h := false, ilc := u.sr.ilc }

/-! ## Moves and logical instructions (41) -/

/-- MOV and MOVI with H = 0 (41 R231, R232, R244), and with H = 1 where they name local registers alone: these execute normally and clear H (10_state
R32; the forms that name a high global register are MoveToHighGlobal's and MoveFromHighGlobal's). -/
def Obligations.MoveResults : Prop :=
  ∀ (rd rs : Reg) (ld ls : BitVec 4) (imm : Imm) (s : State),
    (s.sr.h = false →
      (s.runs 1 true → answersBranch (exec (.mov rd rs) s) s 1 1 rd (s.operand 1 rs) (movedFlags s (s.operand 1 rs) 0)) ∧
      (s.runs (immLength imm) true →
        answersBranch (exec (.movi rd imm) s) s (immLength imm) 1 rd (immValue imm) (movedFlags s (immValue imm) 0))) ∧
    (s.sr.h = true →
      (s.runs 1 false → exec (.mov (.l ld) (.l ls)) s =
        .next ((s.after 1 1 (movedFlags s (s.readLocal ls.toNat) 0)).writeLocal ld.toNat (s.readLocal ls.toNat))) ∧
      (s.runs (immLength imm) false → exec (.movi (.l ld) imm) s =
        .next ((s.after (immLength imm) 1 (movedFlags s (immValue imm) 0)).writeLocal ld.toNat (immValue imm))) ∧
      ∀ i t, i = .mov (.l ld) (.l ls) ∨ i = .movi (.l ld) imm → exec i s = .next t → t.sr.h = false)

/-- MOV and MOVI to a high global register with H = 1 (41 R243): in supervisor state the register takes the value, SP
and UB with bits 1..0 as given (the model's choice, log 54); the read-only ISR stays as it is (the model's choice, 93 U8,
log 13); the reserved registers (93 U5) are refused; in user state nothing is written but undefined flags, and a
Privilege Error is raised. A move to the TR leaves the
prescaler count (the model's choice, log 29; 93 U58 leaves it open), and one to the WCR begins a new comparison with the TR for the toggle latch (the
model's choice, log 30). A MOV whose source is a high global register too, which the manual does not describe, is read with both codes high
(R243, derived by the spec); that in user state it is not read before the Privilege Error is the model's choice (log 38, DEDUCED, unsafe). -/
def Obligations.MoveToHighGlobal : Prop :=
  ∀ (code ls src : BitVec 4) (imm : Imm) (s : State), s.sr.h = true →
    (∀ (i : Instr) (len : Nat) (v : Word),
      (i = .mov (.g code) (.l ls) ∧ len = 1 ∧ v = s.readLocal ls.toNat) ∨
        (i = .movi (.g code) imm ∧ len = immLength imm ∧ v = immValue imm) →
      (s.delay = .none ∨ s.sr.ilc.toNat + len ≤ 3) →
      (s.sr.s = true → ∀ t, highWritten (s.underway len 1 (movedFlags s v 0)) v code = some t → exec i s = .next (t.settle s.delay)) ∧
      (s.sr.s = true → code = 0 ∨ code = 1 ∨ 12 ≤ code.toNat → exec i s = .refused .reservedRegister) ∧
      (s.sr.s = false → exec i s = s.raises (s.underway len 1 s.anyFlagsOf))) ∧
    ((s.delay = .none ∨ s.sr.ilc.toNat + 1 ≤ 3) →
      let i : Instr := .mov (.g code) (.g src)
      let moves (v : Word) (k : Nat) : Prop :=
        ∀ t, highWritten (s.underway 1 (k + 1) (movedFlags s v k)) v code = some t → exec i s = .next (t.settle s.delay)
      (s.sr.s = true →
        (∀ v, s.highPlain src = some v → moves v 0) ∧
        (src = 4 ∨ src = 5 ∨ src = 10 ∨ src = 11 → moves (s.draw 0) 1) ∧
        (src = 9 → ∃ v, s.isrShows v ∧ moves v 1) ∧
        (src = 0 ∨ src = 1 ∨ 12 ≤ src.toNat ∨ code = 0 ∨ code = 1 ∨ 12 ≤ code.toNat → exec i s = .refused .reservedRegister)) ∧
      (s.sr.s = false → exec i s = s.raises (s.underway 1 1 s.anyFlagsOf)))

/-- MOV from a high global register to a local one with H = 1, in either privilege state (41 R243, 60 R502): SP, UB, TCR, TR and WCR read as they
are (SP and UB with bits 1..0 as stored: log 54), the ISR as its flags and the pin levels,
the write-only BCR, TPR, FCR and MCR as any value (93 U7); the reserved ones are refused. -/
def Obligations.MoveFromHighGlobal : Prop :=
  ∀ (ld code : BitVec 4) (s : State), s.sr.h = true → (s.delay = .none ∨ s.sr.ilc.toNat + 1 ≤ 3) →
    (∀ v, s.highPlain code = some v →
      exec (.mov (.l ld) (.g code)) s = .next ((s.after 1 1 (movedFlags s v 0)).writeLocal ld.toNat v)) ∧
    (code = 4 ∨ code = 5 ∨ code = 10 ∨ code = 11 →
      exec (.mov (.l ld) (.g code)) s = .next ((s.after 1 2 (movedFlags s (s.draw 0) 1)).writeLocal ld.toNat (s.draw 0))) ∧
    (code = 9 → ∃ v : Word, s.isrShows v ∧
      exec (.mov (.l ld) (.g code)) s = .next ((s.after 1 2 (movedFlags s v 1)).writeLocal ld.toNat v)) ∧
    (code = 0 ∨ code = 1 ∨ 12 ≤ code.toNat → exec (.mov (.l ld) (.g code)) s = .refused .reservedRegister)

/-- MOVD (41 R233): Rs//Rsf to Rd//Rdf, the high-order word first, so that a low-order word in Rd is read as just written (log 36); zero for the SR
code; Z from 64 bits. -/
def Obligations.MoveDouble : Prop :=
  ∀ (rd rs : Reg) (s : State), s.runs 1 (rd.isGlobal || rs.isGlobal) →
    (rs.isSr = true → answersPair (exec (.movd rd rs) s) s 1 rd 0 0 { c := s.sr.c, z := true, n := false, v := s.anyV }) ∧
    (rs.isSr = false → followSlot rs = none → exec (.movd rd rs) s = .refused .reservedRegister) ∧
    (rs.isSr = false → ∀ rsf, followSlot rs = some rsf →
      let hi := s.operand 1 rs
      let lo := if rsf = regSlot rd then (if rd.isSr then ((s.srDuring 1).setLow hi).toWord else hi) else s.slotDuring 1 rsf
      answersPair (exec (.movd rd rs) s) s 1 rd hi lo { c := s.sr.c, z := hi == 0 && lo == 0, n := hi.msb, v := s.anyV })

/-- AND, ANDN, OR, XOR, NOT, ANDNI, ORI, XORI, MASK: Z alone is written (41 R234 to R242, R244). -/
def Obligations.LogicalResults : Prop :=
  ∀ (rd rs : Reg) (imm : Imm) (const : Const) (s : State),
    let f (v : Word) : Flags := { c := s.sr.c, z := v == 0, n := s.sr.n, v := s.sr.v }
    let two (i : Instr) (v : Word) := answersResult (exec i s) s 1 0 rd v (f v)
    let one (i : Instr) (v : Word) := answersResult (exec i s) s (immLength imm) 0 rd v (f v)
    (s.runs 1 (rd.isGlobal || rs.isGlobal) →
      two (.and rd rs) (s.operand 1 rd &&& s.operand 1 rs) ∧ two (.andn rd rs) (s.operand 1 rd &&& ~~~s.operand 1 rs) ∧
      two (.or rd rs) (s.operand 1 rd ||| s.operand 1 rs) ∧ two (.xor rd rs) (s.operand 1 rd ^^^ s.operand 1 rs) ∧
      two (.not rd rs) (~~~s.operand 1 rs)) ∧
    (s.runs (immLength imm) rd.isGlobal →
      one (.andni rd imm) (s.operand (immLength imm) rd &&& ~~~immMaskValue imm) ∧
      one (.ori rd imm) (s.operand (immLength imm) rd ||| immValue imm) ∧
      one (.xori rd imm) (s.operand (immLength imm) rd ^^^ immValue imm)) ∧
    (s.runs (constLength const) (rd.isGlobal || rs.isGlobal) →
      let v := s.operand (constLength const) rs &&& constValue const
      answersResult (exec (.mask rd rs const) s) s (constLength const) 0 rd v (f v))

/-! ## Arithmetic (42) -/

/-- ADD, SUB, ADDI, ADDI with CZ, SUM: result, flags, and the implicit branch with the PC as Rd (42 R251, R254, R256, R257, R259, R269, R270). -/
def Obligations.AddAndSubtract : Prop :=
  ∀ (rd rs : Reg) (imm : Imm) (const : Const) (s : State),
    (s.runs 1 (rd.isGlobal || rs.isGlobal) →
      answersBranch (exec (.add rd rs) s) s 1 0 rd (s.operand 1 rd + s.addend 1 rs) (sumFlags (s.operand 1 rd) (s.addend 1 rs)) ∧
      answersBranch (exec (.sub rd rs) s) s 1 0 rd (s.operand 1 rd - s.addend 1 rs) (differenceFlags (s.operand 1 rd) (s.addend 1 rs))) ∧
    (s.runs (immLength imm) rd.isGlobal →
      let a := s.operand (immLength imm) rd
      answersBranch (exec (.addi rd imm) s) s (immLength imm) 0 rd (a + immValue imm) (sumFlags a (immValue imm))) ∧
    (s.runs 1 rd.isGlobal →
      let a := s.operand 1 rd
      answersBranch (exec (.addiCz rd) s) s 1 0 rd (a + roundBit s a) (sumFlags a (roundBit s a))) ∧
    (s.runs (constLength const) (rd.isGlobal || rs.isGlobal) →
      let a := s.addend (constLength const) rs
      answersBranch (exec (.sum rd rs const) s) s (constLength const) 0 rd (a + constValue const) (sumFlags a (constValue const)))

/-- ADDS, SUBS, NEGS, ADDSI, ADDSI with CZ, SUMS: C stays, and a signed overflow raises a Range Error after the write (42 R252, R255, R256, R258,
R260, R263). -/
def Obligations.TrappingArithmetic : Prop :=
  ∀ (rd rs : Reg) (imm : Imm) (const : Const) (s : State),
    let up (i : Instr) (len : Nat) (a b : Word) :=
      answersTrapping (exec i s) s len rd (a + b) { sumFlags a b with c := s.sr.c } (BitVec.saddOverflow a b)
    let down (i : Instr) (a b : Word) :=
      answersTrapping (exec i s) s 1 rd (a - b) { differenceFlags a b with c := s.sr.c } (BitVec.ssubOverflow a b)
    (s.runs 1 (rd.isGlobal || rs.isGlobal) →
      up (.adds rd rs) 1 (s.operand 1 rd) (s.addend 1 rs) ∧ down (.subs rd rs) (s.operand 1 rd) (s.addend 1 rs) ∧
      down (.negs rd rs) 0 (s.addend 1 rs)) ∧
    (s.runs (immLength imm) rd.isGlobal → up (.addsi rd imm) (immLength imm) (s.operand (immLength imm) rd) (immValue imm)) ∧
    (s.runs 1 rd.isGlobal → up (.addsiCz rd) 1 (s.operand 1 rd) (roundBit s (s.operand 1 rd))) ∧
    (s.runs (constLength const) (rd.isGlobal || rs.isGlobal) →
      up (.sums rd rs const) (constLength const) (s.addend (constLength const) rs) (constValue const))

/-- ADDC and SUBC add and subtract C, once where Rs is the SR code, with a sticky Z; carry, borrow and overflow are those of the exact sum and
difference (42 R250, R253, R261). NEG is 0 - b (R262). -/
def Obligations.CarryArithmetic : Prop :=
  ∀ (rd rs : Reg) (s : State), s.runs 1 (rd.isGlobal || rs.isGlobal) →
    let a := s.operand 1 rd
    let b := s.addend 1 rs
    let c : Nat := if s.sr.c && !rs.isSr then 1 else 0
    let sum := a + b + BitVec.ofNat 32 c
    let dif := a - b - BitVec.ofNat 32 c
    let inRange (x : Int) : Bool := decide (-2 ^ 31 ≤ x ∧ x < 2 ^ 31)
    answersResult (exec (.addc rd rs) s) s 1 0 rd sum
      { c := decide (2 ^ 32 ≤ a.toNat + b.toNat + c), z := s.sr.z && sum == 0, n := sum.msb, v := !inRange (a.toInt + b.toInt + c) } ∧
    answersResult (exec (.subc rd rs) s) s 1 0 rd dif
      { c := decide (a.toNat < b.toNat + c), z := s.sr.z && dif == 0, n := dif.msb, v := !inRange (a.toInt - b.toInt - c) } ∧
    answersResult (exec (.neg rd rs) s) s 1 0 rd (-b) { c := b != 0, z := b == 0, n := (-b).msb, v := b == 0x80000000 }

/-- MUL, MULS, MULU: the low-order word of the product, or all 64 bits of the signed or unsigned one; V and C undefined (42 R264 to R266; operands
read first: D14); with the PC or SR denoted, everything written is any value (93 U33). -/
def Obligations.Multiply : Prop :=
  ∀ (rd rs : Reg) (s : State), s.runs 1 (rd.isGlobal || rs.isGlobal) →
    let a := s.operand 1 rd
    let b := s.operand 1 rs
    let single := BitVec.ofNat 32 (a.toNat * b.toNat)
    let pair (i : Instr) (p : BitVec 64) :=
      answersPair (exec i s) s 1 rd (p.extractLsb' 32 32) (p.extractLsb' 0 32) { c := s.anyC, z := p == 0, n := p.msb, v := s.anyV }
    (rd.notPcSr = true → rs.notPcSr = true →
      answersResult (exec (.mul rd rs) s) s 1 1 rd single { c := s.anyC, z := single == 0, n := single.msb, v := s.anyV } ∧
      pair (.muls rd rs) (BitVec.ofInt 64 (a.toInt * b.toInt)) ∧ pair (.mulu rd rs) (BitVec.ofNat 64 (a.toNat * b.toNat))) ∧
    (rd.notPcSr = false ∨ rs.notPcSr = false →
      answersResult (exec (.mul rd rs) s) s 1 2 rd (s.draw 1) s.anyFlagsOf ∧
      answersPair (exec (.muls rd rs) s) s 3 rd (s.draw 1) (s.draw 2) s.anyFlagsOf ∧
      answersPair (exec (.mulu rd rs) s) s 3 rd (s.draw 1) (s.draw 2) s.anyFlagsOf)

/-- DIVS and DIVU (42 R267, R268): remainder to Rd, quotient to Rdf, flags of the quotient; a Range Error with V = 1 and the rest undefined for a
zero divisor, a quotient out of range or, at DIVS, a negative dividend; any value in the result and in Z, N and V where the divisor lies in the
dividend (93 U34) or the PC or SR is denoted (93 U33); that C stays there, and that a Range Error is raised for U34 where the operands call for it and
for U33 never, is the model's reading (log 20, DEDUCED, unsafe). -/
def Obligations.Divide : Prop :=
  ∀ (rd rs : Reg) (s : State), s.runs 1 (rd.isGlobal || rs.isGlobal) →
    let any (v : Bool) : Flags := { c := s.sr.c, z := s.anyZ, n := s.anyN, v := v }
    (rd.notPcSr = false ∨ rs.notPcSr = false →
      answersPair (exec (.divs rd rs) s) s 3 rd (s.draw 1) (s.draw 2) (any s.anyV) ∧
      answersPair (exec (.divu rd rs) s) s 3 rd (s.draw 1) (s.draw 2) (any s.anyV)) ∧
    (rd.notPcSr = true → rs.notPcSr = true → followSlot rd = none →
      exec (.divs rd rs) s = .refused .reservedRegister ∧ exec (.divu rd rs) s = .refused .reservedRegister) ∧
    (rd.notPcSr = true → rs.notPcSr = true → ∀ rdf, followSlot rd = some rdf →
      let dividend : BitVec 64 := s.operand 1 rd ++ s.slotDuring 1 rdf
      let divisor := s.operand 1 rs
      let overlap := regSlot rs = regSlot rd ∨ regSlot rs = rdf
      let answers (i : Instr) (fails : Prop) (rem quo : Word) :=
        (fails → overlap → exec i s = s.raises (((s.underway 1 3 (any s.anyV)).put rd (s.draw 1)).putSlot (s.draw 2) rdf)) ∧
        (fails → ¬overlap → exec i s = s.raises (((s.underway 1 3 (any true)).put rd (s.draw 1)).putSlot (s.draw 2) rdf)) ∧
        (¬fails → overlap → exec i s = .next (((s.after 1 3 (any s.anyV)).put rd (s.draw 1)).putSlot (s.draw 2) rdf)) ∧
        (¬fails → ¬overlap → exec i s = .next
          (((s.after 1 3 { c := s.sr.c, z := quo == 0, n := quo.msb, v := false }).put rd rem).putSlot quo rdf))
      answers (.divs rd rs)
        (divisor = 0 ∨ dividend.msb = true ∨ dividend.toInt.tdiv divisor.toInt < -2 ^ 31 ∨ 2 ^ 31 ≤ dividend.toInt.tdiv divisor.toInt)
        (BitVec.ofInt 32 (dividend.toInt.tmod divisor.toInt)) (BitVec.ofInt 32 (dividend.toInt.tdiv divisor.toInt)) ∧
      answers (.divu rd rs) (divisor = 0 ∨ divisor.toNat ≤ (s.operand 1 rd).toNat)
        (BitVec.ofNat 32 (dividend.toNat % divisor.toNat)) (BitVec.ofNat 32 (dividend.toNat / divisor.toNat)))

/-! ## Shifts (43) -/

/-- SHLI, SHL, SARI, SAR, SHRI, SHR, ROL (43 R291 to R303; C after a right shift by 0 is 0: the spec's decision D16, log 45). -/
def Obligations.SingleShifts : Prop :=
  ∀ (rd : Reg) (n : BitVec 5) (ld ls : BitVec 4) (s : State),
    (s.runs 1 rd.isGlobal →
      let x := s.operand 1 rd
      let k := n.toNat
      answersResult (exec (.shli rd n) s) s 1 1 rd (x <<< k) (leftFlags s x k) ∧
      answersResult (exec (.sari rd n) s) s 1 0 rd (x.sshiftRight k) (rightFlags s x (x.sshiftRight k) k) ∧
      answersResult (exec (.shri rd n) s) s 1 0 rd (x >>> k) (rightFlags s x (x >>> k) k)) ∧
    (s.runs 1 false →
      let x := s.readLocal ld.toNat
      let k := ((s.readLocal ls.toNat).extractLsb' 0 5).toNat
      answersResult (exec (.shl ld ls) s) s 1 1 (.l ld) (x <<< k) (leftFlags s x k) ∧
      answersResult (exec (.sar ld ls) s) s 1 0 (.l ld) (x.sshiftRight k) (rightFlags s x (x.sshiftRight k) k) ∧
      answersResult (exec (.shr ld ls) s) s 1 0 (.l ld) (x >>> k) (rightFlags s x (x >>> k) k) ∧
      answersResult (exec (.rol ld ls) s) s 1 1 (.l ld) (x.rotateLeft k)
        { c := s.anyC, z := x.rotateLeft k == 0, n := (x.rotateLeft k).msb, v := s.anyV })

/-- SHLDI, SHLD, SARDI, SARD, SHRDI, SHRD on the local pair Ld//Ldf (43 R292 to R302; C at a count of 0: D16, log 45); with Ls the register Ld or
Ldf, any value in the pair and in the flags written (93 U35). -/
def Obligations.DoubleShifts : Prop :=
  ∀ (ld ls : BitVec 4) (n : BitVec 5) (s : State), s.runs 1 false →
    let x := s.localPair ld
    let k := ((s.readLocal ls.toNat).extractLsb' 0 5).toNat
    let any : BitVec 64 := s.draw 1 ++ s.draw 2
    (answersLocalPair (exec (.shldi ld n) s) s 1 ld (x <<< n.toNat) (leftFlags s x n.toNat) ∧
      answersLocalPair (exec (.sardi ld n) s) s 0 ld (x.sshiftRight n.toNat) (rightFlags s x (x.sshiftRight n.toNat) n.toNat) ∧
      answersLocalPair (exec (.shrdi ld n) s) s 0 ld (x >>> n.toNat) (rightFlags s x (x >>> n.toNat) n.toNat)) ∧
    (ls ≠ ld → ls.toNat ≠ ld.toNat + 1 →
      answersLocalPair (exec (.shld ld ls) s) s 1 ld (x <<< k) (leftFlags s x k) ∧
      answersLocalPair (exec (.sard ld ls) s) s 0 ld (x.sshiftRight k) (rightFlags s x (x.sshiftRight k) k) ∧
      answersLocalPair (exec (.shrd ld ls) s) s 0 ld (x >>> k) (rightFlags s x (x >>> k) k)) ∧
    (ls = ld ∨ ls.toNat = ld.toNat + 1 →
      answersLocalPair (exec (.shld ld ls) s) s 3 ld any s.anyFlagsOf ∧
      answersLocalPair (exec (.sard ld ls) s) s 3 ld any { c := s.anyC, z := s.anyZ, n := s.anyN, v := s.sr.v } ∧
      answersLocalPair (exec (.shrd ld ls) s) s 3 ld any { c := s.anyC, z := s.anyZ, n := s.anyN, v := s.sr.v })

/-! ## Index moves, checks, compares, sets (44) -/

/-- XM1 to XM8 and XX1 to XX8 (44 R310 to R318): the source shifted left; XMx raise a Range Error where it is higher than lim, or with the PC as
source not lower; no flag changes. -/
def Obligations.IndexMoves : Prop :=
  ∀ (i : Instr) (k : Nat) (checked : Bool) (rd rs : Reg) (lim : Lim) (s : State),
    i.indexForm = some (k, checked, rd, rs, lim) → s.runs (limLength lim) (rd.isGlobal || rs.isGlobal) →
    let v := (s.operand (limLength lim) rs).toNat
    answersTrapping (exec i s) s (limLength lim) rd (BitVec.ofNat 32 (v * 2 ^ k)) s.flags
      (checked && (if rs.isPc then decide ((limValue lim).toNat ≤ v) else decide ((limValue lim).toNat < v)))

/-- CHK, CHKZ, NOP and FETCH change nothing but what every instruction does; CHK raises a Range Error where Rd is higher than Rs, or with the PC as
Rs not lower, CHKZ where Rd is zero (44 R319 to R321, with their encodings; 45 R390); FETCH must not be a delay instruction (93 U36, log 22). -/
def Obligations.ChecksNopAndFetch : Prop :=
  ∀ (rd rs : Reg) (k : BitVec 4) (s : State),
    let idle := s.underway 1 0 s.flags
    (encode (.chk rd rs) = [0#6 ++ rd.bank ++ rs.bank ++ rd.code ++ rs.code] ∧
      encode (.chkz rd) = [0#6 ++ rd.bank ++ 0#1 ++ rd.code ++ 1#4] ∧ encode .nop = [0x0300]) ∧
    (s.runs 1 (rd.isGlobal || rs.isGlobal) →
      let high := if rs.isPc then (s.operand 1 rs).toNat ≤ (s.operand 1 rd).toNat else (s.operand 1 rs).toNat < (s.operand 1 rd).toNat
      exec (.chk rd rs) s = if high then s.raises idle else .next (s.after 1 0 s.flags)) ∧
    (s.runs 1 true → exec (.chkz rd) s = if s.operand 1 rd = 0 then s.raises idle else .next (s.after 1 0 s.flags)) ∧
    (s.runs 1 false → exec .nop s = .next (s.after 1 0 s.flags)) ∧
    (s.sr.h = false → s.delay = .none → exec (.fetch k) s = .next idle) ∧
    (s.sr.h = false → s.delay ≠ .none → exec (.fetch k) s = .refused .branchInDelaySlot)

/-- CMP, CMPI, CMPB, CMPBI, CMPBI ANYBZ write flags only (44 R322 to R326): N of CMP is the sign of the true difference. -/
def Obligations.Compares : Prop :=
  ∀ (rd rs : Reg) (imm : Imm) (s : State),
    let less (a b : Word) : Flags := { c := a.ult b, z := a == b, n := a.slt b, v := BitVec.ssubOverflow a b }
    let zero (z : Bool) : Flags := { c := s.sr.c, z := z, n := s.sr.n, v := s.sr.v }
    (s.runs 1 (rd.isGlobal || rs.isGlobal) →
      exec (.cmp rd rs) s = .next (s.after 1 0 (less (s.operand 1 rd) (s.addend 1 rs))) ∧
      exec (.cmpb rd rs) s = .next (s.after 1 0 (zero (s.operand 1 rd &&& s.operand 1 rs == 0)))) ∧
    (s.runs (immLength imm) rd.isGlobal →
      let a := s.operand (immLength imm) rd
      exec (.cmpi rd imm) s = .next (s.after (immLength imm) 0 (less a (immValue imm))) ∧
      exec (.cmpbi rd imm) s = .next (s.after (immLength imm) 0 (zero (a &&& immMaskValue imm == 0)))) ∧
    (s.runs 1 rd.isGlobal →
      let a := s.operand 1 rd
      exec (.cmpbiAnybz rd) s = .next (s.after 1 0 (zero (decide (∃ j : Fin 4, a.extractLsb' (8 * j.val) 8 = 0)))))

/-- TESTLZ counts the leading zero bits, 32 for zero (44 R327); SETADR expands FP to the stack address (R328), and with the SR or PC as Rd does what
the model lets any result instruction do there (R151, 93 U12, log 14); both with their encodings. No flag changes. -/
def Obligations.LeadingZerosAndStackAddress : Prop :=
  ∀ (ld ls : BitVec 4) (rd : Reg) (s : State),
    (encode (.testlz ld ls) = [0x8E#8 ++ ld ++ ls] ∧ encode (.setadr rd) = [0x2E#6 ++ rd.bank ++ 0#1 ++ rd.code ++ 0#4]) ∧
    (s.runs 1 false → ∃ n : Nat, n ≤ 32 ∧
      (∀ j, 32 - n ≤ j → j < 32 → (s.readLocal ls.toNat).getLsbD j = false) ∧
      (n < 32 → (s.readLocal ls.toNat).getLsbD (31 - n) = true) ∧
      exec (.testlz ld ls) s = .next ((s.after 1 0 s.flags).writeLocal ld.toNat (BitVec.ofNat 32 n))) ∧
    (s.runs 1 rd.isGlobal →
      let carry : BitVec 23 := if s.sp.getLsbD 8 = true ∧ s.sr.fp.getLsbD 6 = false then 1 else 0
      answersResult (exec (.setadr rd) s) s 1 0 rd ((s.sp.extractLsb' 9 23 + carry) ++ s.sr.fp ++ 0#2) s.flags)

/-- The SETxx instructions write 1 or all ones where the condition holds, otherwise 0; no flag changes (44 R329, R630 to R656). -/
def Obligations.SetConditional : Prop :=
  ∀ (i : Instr) (cond : Cond) (yes : Word) (rd : Reg) (s : State), i.setForm = some (cond, yes, rd) → s.runs 1 rd.isGlobal →
    answersResult (exec i s) s 1 0 rd (if cond.holds s.flags then yes else 0) s.flags

/-! ## Control flow (45) -/

/-- The Branch instructions (45 R350, R352): not taken, nothing but what every instruction does; taken, the PC is the address after the instruction
plus rel, M is cleared, the ILC is any value (93 U6), and the cache stays where the instruction has one half-word and the cache has the target,
otherwise it is flushed (20 R116, R118; compared by words: log 53); never as a delay instruction (93 U36). -/
def Obligations.Branches : Prop :=
  ∀ (i : Instr) (cond : Cond) (rel : Rel) (s : State), i.branchForm = some (cond, rel) →
    let len := relLength rel
    let u := s.underway len 0 s.flags
    let target := s.pc + BitVec.ofNat 32 (2 * len) + relValue rel
    (s.delay ≠ .none → exec i s = .refused .branchInDelaySlot) ∧
    (s.delay = .none → cond.holds s.flags = false → exec i s = .next u) ∧
    (s.delay = .none → cond.holds s.flags = true → exec i s = .next
      { u with
        pc := target &&& 0xFFFFFFFE
        sr := { u.sr with m := false, ilc := (s.draw 0).extractLsb' 0 2 }
        draws := s.draws + 1
        cache := if len = 1 ∧ s.cache.inReach rel target then s.cache else s.cache.flush target })

/-- The Delayed Branch instructions (45 R355 to R357, R360): taken, the PC is the target and the instruction after is a delay instruction at its own
address; not taken, it is a delay instruction all the same; M stays, and the cache as R116 and R119 of 20 have it: a flush waits for the delay
instruction (log 18). In a delay position it acts as the Branch, from the PC that it finds: there R360 (c), derived in part by the spec, is
followed against 93 U36, which would have it refused (log 22, DEDUCED, unsafe). -/
def Obligations.DelayedBranches : Prop :=
  ∀ (i : Instr) (cond : Cond) (rel : Rel) (s : State), i.delayedForm = some (cond, rel) →
    let len := relLength rel
    let u := s.underway len 0 s.flags
    let past := s.pc + BitVec.ofNat 32 (2 * len)
    let target := past + relValue rel
    (s.delay = .none → cond.holds s.flags = false → exec i s = .next { u with delay := .notTaken }) ∧
    (s.delay = .none → cond.holds s.flags = true → exec i s = .next
      { u with
        pc := target &&& 0xFFFFFFFE
        delay := .taken past
        cache := if len = 1 ∧ (s.cache.inReach rel target ∨ (0 ≤ (relValue rel).toInt ∧ s.sr.m = true)) then s.cache
          else { s.cache with flushAfterSlot := true } }) ∧
    (s.delay ≠ .none → 3 < s.sr.ilc.toNat + len → exec i s = .refused .delayPairTooLong) ∧
    (s.delay ≠ .none → s.sr.ilc.toNat + len ≤ 3 → cond.holds s.flags = false → exec i s = .next (s.after len 0 s.flags)) ∧
    (s.delay ≠ .none → s.sr.ilc.toNat + len ≤ 3 → cond.holds s.flags = true →
      exec i s = .next (({ u with
        pc := (s.nextPc len + relValue rel) &&& 0xFFFFFFFE
        sr := { u.sr with m := false, ilc := (s.draw 0).extractLsb' 0 2 }
        draws := s.draws + 1
        cache := s.cache.flush (s.nextPc len + relValue rel) } : State).settle s.delay))

/-- CALL (45 R361 to R366; P = 1 in the saved SR: D10): the return address with S in bit 0 and the SR go to Ld//Ldf, Ld-code 0 meaning 16; the frame
moves there with FL = 6; the next instruction is locked out from exceptions. -/
def Obligations.Call : Prop :=
  ∀ (ld : BitVec 4) (rs : Reg) (const : Const) (s : State),
    let len := constLength const
    let u := s.underway len 0 s.flags
    let k := if ld = 0 then 16 else ld.toNat
    let ret := s.pc + BitVec.ofNat 32 (2 * len)
    let target := if rs.isSr then constValue const else s.operand len rs + constValue const
    (s.branches rs.isGlobal → exec (.call ld rs const) s = .next
      { (u.writeLocal k (ret.extractLsb' 1 31 ++ BitVec.ofBool s.sr.s)).writeLocal (k + 1) (s.srDuring len).toWord with
        pc := target &&& 0xFFFFFFFE
        sr := { u.sr with fp := s.sr.fp + BitVec.ofNat 7 k, fl := 6, m := false, ilc := (s.draw 0).extractLsb' 0 2 }
        callLockout := true
        draws := s.draws + 1
        cache := s.cache.flush target }) ∧
    ((s.sr.h && rs.isGlobal) = false → s.delay ≠ .none → exec (.call ld rs const) s = .refused .branchInDelaySlot)

/-- The Trap instructions (45 R367 to R369, 60 R482; P = 1 and H in the saved SR: D10, D21): taken, as an exception's entry but with FL = 6, I
unchanged, the address after the instruction and ILC = 1 saved; not taken, nothing but what every instruction does. -/
def Obligations.Traps : Prop :=
  ∀ (i : Instr) (cond : Cond) (n : BitVec 6) (s : State), i.trapForm = some (cond, n) →
    let u := s.underway 1 0 s.flags
    let k := if s.sr.fl = 0 then 16 else s.sr.fl.toNat
    (s.delay ≠ .none → exec i s = .refused .branchInDelaySlot) ∧
    (s.delay = .none → cond.holds s.flags = false → exec i s = .next u) ∧
    (s.delay = .none → cond.holds s.flags = true → ∀ e, trapEntry s.bus.mcr n = .next e → exec i s = .next
      { (u.writeLocal k ((s.pc + 2).extractLsb' 1 31 ++ BitVec.ofBool s.sr.s)).writeLocal (k + 1)
          ({ s.sr with p := true, ilc := 1 } : StatusReg).toWord with
        pc := e &&& 0xFFFFFFFE
        sr := { u.sr with
          fp := s.sr.fp + BitVec.ofNat 7 k, fl := 6, m := false, t := false, l := true, s := true, ilc := (s.draw 0).extractLsb' 0 2 }
        draws := s.draws + 1
        cache := s.cache.flush e }) ∧
    (s.delay = .none → cond.holds s.flags = true → ∀ r, trapEntry s.bus.mcr n = .refused r → exec i s = .refused r)

/-- The Software instructions, FADD to DO (47 R430 to R433): five words saved above the frame, a new frame of length 6 there, M and T cleared, L
set, S and I kept; the stack address of Ld is that of SETADR plus 4 times its code (derived by the spec: R432, log 50). -/
def Obligations.SoftwareInstructions : Prop :=
  ∀ (i : Instr) (op ld ls : BitVec 4) (s : State), i.softwareForm = some (op, ld, ls) →
    let u := s.underway 1 0 s.flags
    let k := if s.sr.fl = 0 then 16 else s.sr.fl.toNat
    let carry : BitVec 23 := if s.sp.getLsbD 8 = true ∧ s.sr.fp.getLsbD 6 = false then 1 else 0
    let sa : Word := ((s.sp.extractLsb' 9 23 + carry) ++ s.sr.fp ++ 0#2) + BitVec.ofNat 32 (4 * ld.toNat)
    (s.delay ≠ .none → exec i s = .refused .branchInDelaySlot) ∧
    (s.delay = .none → ∀ e, softwareEntry s.bus.mcr op = .next e → exec i s = .next
      { ((((u.writeLocal k sa).writeLocal (k + 1) (s.readLocal ls.toNat)).writeLocal (k + 2) (s.readLocal (ls.toNat + 1))).writeLocal
            (k + 3) ((s.pc + 2).extractLsb' 1 31 ++ BitVec.ofBool s.sr.s)).writeLocal (k + 4)
          ({ s.sr with p := true, ilc := 1 } : StatusReg).toWord with
        pc := e &&& 0xFFFFFFFE
        sr := { u.sr with
          fp := s.sr.fp + BitVec.ofNat 7 k, fl := 6, m := false, t := false, l := true, ilc := (s.draw 0).extractLsb' 0 2 }
        draws := s.draws + 1
        cache := s.cache.flush e }) ∧
    (s.delay = .none → ∀ r, softwareEntry s.bus.mcr op = .refused r → exec i s = .refused r)

/-- FRAME (45 R370 to R372): FP back by the Ls-code, FL the Ld-code, M cleared; where registers are missing for the frame and the reserve of 10, that
many words are pushed, and a Frame Error is raised afterwards if the old SP was not below UB: that SP and UB are compared as unsigned numbers is
derived by the spec (R372; log 48, DEDUCED, unsafe for stacks across 8000 0000). -/
def Obligations.FrameInstruction : Prop :=
  ∀ (ld ls : BitVec 4) (s : State), s.runs 1 false →
    let u := s.underway 1 0 s.flags
    let v : State := { u with sr := { u.sr with fp := s.sr.fp - ls.setWidth 7, fl := ld, m := false } }
    let available := (s.sp.extractLsb' 2 7 + 54 - (s.sr.fp - ls.setWidth 7 + BitVec.ofNat 7 (if ld = 0 then 16 else ld.toNat))).toInt
    (0 ≤ available → exec (.frame ld ls) s = .next (v.settle s.delay)) ∧
    (available < 0 →
      let k := (-available).toNat
      (∀ j, j < k → s.areaRefusal (areaOf (s.sp + 4 * BitVec.ofNat 32 j)) = none) →
      exec (.frame ld ls) s = if s.ub.toNat ≤ s.sp.toNat then s.raises (v.pushed k) else .next ((v.pushed k).settle s.delay))

/-- What the push of FRAME leaves (45 R371), where its words lie in writable memory that is no configuration address and share no cell: each word
reads as the register its address names, SP is past them, and every other byte is as before. -/
def Obligations.PushedWords : Prop :=
  ∀ (t : State) (k : Nat), t.memWf = true → k ≤ 64 → t.sp.extractLsb' 0 2 = 0 →
    let at_ (j : Nat) (b : Nat) : Word := t.sp + 4 * BitVec.ofNat 32 j + BitVec.ofNat 32 b
    (∀ j b, j < k → b < 4 → t.writable (at_ j b) = true ∧ isSdramConfig t.bus.mcr (at_ j b) = false) →
    (∀ j b j' b', j < k → b < 4 → j' < k → b' < 4 → t.cellOf (at_ j b) = t.cellOf (at_ j' b') → j = j' ∧ b = b') →
    (t.pushed k).sp = t.sp + 4 * BitVec.ofNat 32 k ∧ (t.pushed k).locals = t.locals ∧
    (∀ j, j < k → (t.pushed k).valueAt .word (at_ j 0) = t.readAbsolute (at_ j 0)) ∧
    (∀ a, (∀ j b, j < k → b < 4 → t.cellOf a ≠ t.cellOf (at_ j b)) → (t.pushed k).byteAt a = t.byteAt a)

/-- RET (45 R380 to R382): PC and SR from Rs//Rsf, but ILC = 0 and S from bit 0 of Rs; the missing words of the frame are pulled; a Privilege Error
for a return from user to supervisor state, or to user state with L set from 0, taken after the pull (D22, log 39). -/
def Obligations.Return : Prop :=
  ∀ (rs : Reg) (s : State), rs.notPcSr = true → s.branches true →
    (followSlot rs = none → exec (.ret rs) s = .refused .reservedRegister) ∧
    (∀ rsf, followSlot rs = some rsf →
      let a := s.operand 1 rs
      let q := StatusReg.ofWord (s.slotDuring 1 rsf)
      let v : State := { s.underway 1 0 s.flags with
        pc := a &&& 0xFFFFFFFE, sr := { q with ilc := 0, s := a.getLsbD 0 }, cache := s.cache.flush a }
      let k := (-(q.fp - s.sp.extractLsb' 2 7).toInt).toNat
      (∀ j, j < k → s.readRefusal (s.sp - 4 - 4 * BitVec.ofNat 32 j) = none) →
      exec (.ret rs) s =
        if (s.sr.s = false ∧ a.getLsbD 0 = true) ∨ (a.getLsbD 0 = false ∧ s.sr.l = false ∧ q.l = true) then s.raises (v.pulled k)
        else .next (v.pulled k))

/-- A Return through the words that a Call through L0 saved gives back PC, FP, FL and every other SR field but P, which is set, and the ILC
(45 R361, R364, R380), where the return needs no word from memory. -/
def Obligations.ReturnUndoesCall : Prop :=
  ∀ (ld : BitVec 4) (const : Const) (s t : State), s.branches false → s.pc.getLsbD 0 = false →
    exec (.call ld (.l 0) const) s = .next t →
    0 ≤ (s.sr.fp - s.sp.extractLsb' 2 7).toInt →
    ∃ r, exec (.ret (.l 0)) t = .next r ∧ r.pc = s.pc + BitVec.ofNat 32 (2 * constLength const) ∧
      r.sr = { s.sr with p := true, ilc := 0 } ∧ r.sp = s.sp

/-! ## Extended DSP (46) -/

/-- The fourteen Extended DSP instructions (46 R400 to R416): exact integers of the operands and the old G14 and G15, wrapped where they are written
(the spec's decisions D15, D23, D24, log 27); an overflow of EMAC to EHCFFTSD is pended while FCR(16) = 0. No flag changes, whatever H is. -/
def Obligations.ExtendedDsp : Prop :=
  ∀ (ld ls : BitVec 4) (s : State), (s.delay = .none ∨ s.sr.ilc.toNat + 2 ≤ 3) →
    let x := s.readLocal ld.toNat
    let y := s.readLocal ls.toNat
    let p : Int := x.toInt * y.toInt
    let a14 := (s.readGlobal 14).toInt
    let a15 := (s.readGlobal 15).toInt
    let acc : Int := (s.readGlobal 14 ++ s.readGlobal 15).toInt
    let xh := (x.extractLsb' 16 16).toInt
    let xl := (x.extractLsb' 0 16).toInt
    let yh := (y.extractLsb' 16 16).toInt
    let yl := (y.extractLsb' 0 16).toInt
    let fits (w : Nat) (v : Int) : Bool := (BitVec.ofInt w v).toInt == v
    let ends (i : Instr) (g14 g15 : Word) (overflow : Bool) := exec i s = .next
      { ((s.after 2 0 s.flags).writeGlobal 14 g14).writeGlobal 15 g15 with
        eovPending := s.eovPending || (overflow && !s.fcr.getLsbD 16) }
    let single (i : Instr) (v : Int) (may : Bool) := ends i (s.readGlobal 14) (BitVec.ofInt 32 v) (may && !fits 32 v)
    let double (i : Instr) (v : Int) (may : Bool) :=
      ends i ((BitVec.ofInt 64 v).extractLsb' 32 32) ((BitVec.ofInt 64 v).extractLsb' 0 32) (may && !fits 64 v)
    let complex (i : Instr) (re im : Int) := ends i (BitVec.ofInt 32 re) (BitVec.ofInt 32 im) (!fits 32 re || !fits 32 im)
    let halves (i : Instr) (a b c d : Int) :=
      ends i (BitVec.ofInt 16 a ++ BitVec.ofInt 16 b) (BitVec.ofInt 16 c ++ BitVec.ofInt 16 d)
        (!fits 16 a || !fits 16 b || !fits 16 c || !fits 16 d)
    single (.emul ld ls) p false ∧ double (.emulu ld ls) (x.toNat * y.toNat : Nat) false ∧ double (.emuls ld ls) p false ∧
    single (.emac ld ls) (a15 + p) true ∧ double (.emacd ld ls) (acc + p) true ∧
    single (.emsub ld ls) (a15 - p) true ∧ double (.emsubd ld ls) (acc - p) true ∧
    single (.ehmac ld ls) (a15 + (xh * yh + xl * yl)) true ∧ double (.ehmacd ld ls) (acc + (xh * yh + xl * yl)) true ∧
    complex (.ehcmuld ld ls) (xh * yh - xl * yl) (xh * yl + xl * yh) ∧
    complex (.ehcmacd ld ls) (a14 + (xh * yh - xl * yl)) (a15 + (xh * yl + xl * yh)) ∧
    halves (.ehcsumd ld ls) (xh + a14) (xl + a15) (xh - a14) (xl - a15) ∧
    halves (.ehcfftd ld ls) (xh + a14 / 2 ^ 15) (xl + a15 / 2 ^ 15) (xh - a14 / 2 ^ 15) (xl - a15 / 2 ^ 15) ∧
    halves (.ehcfftsd ld ls) ((xh + a14 / 2 ^ 15) / 2) ((xl + a15 / 2 ^ 15) / 2) ((xh - a14 / 2 ^ 15) / 2) ((xl - a15 / 2 ^ 15) / 2)

/-! ## Memory (20) -/

/-- Big-endian (20 R92) and aligned (R93): a value read is the bytes in ascending order from the address without its low bits, the high-order byte
first, expanded with zeros. -/
def Obligations.ReadsAreBigEndian : Prop :=
  ∀ (s : State) (a : Word) (b : Nat → Byte),
    (s.byteAt a = some (b 0) → s.valueAt .byte a = 0#24 ++ b 0) ∧
    ((∀ k, k < 2 → s.byteAt ((a &&& 0xFFFFFFFE) + BitVec.ofNat 32 k) = some (b k)) → s.valueAt .half a = 0#16 ++ b 0 ++ b 1) ∧
    ((∀ k, k < 4 → s.byteAt ((a &&& 0xFFFFFFFC) + BitVec.ofNat 32 k) = some (b k)) → s.valueAt .word a = b 0 ++ b 1 ++ b 2 ++ b 3)

/-- A store (20 R92, R93, R97, R98, R104) puts each byte of the value where it belongs, if something writable is connected there and no two of
the bytes share a cell; every address whose cell is none of these reads as before. -/
def Obligations.StoreWritesItsBytes : Prop :=
  ∀ (s : State) (z : Size) (a v : Word),
    let at_ (k : Nat) : Word := z.align a + BitVec.ofNat 32 k
    s.memWf = true →
    (∀ k j, k < z.bytes → j < z.bytes → s.cellOf (at_ k) = s.cellOf (at_ j) → k = j) →
    (∀ k, k < z.bytes → s.writable (at_ k) = true →
      (s.store z a v).byteAt (at_ k) = some (v.extractLsb' (8 * (z.bytes - 1 - k)) 8)) ∧
    (∀ k, k < z.bytes → s.writable (at_ k) = false → (s.store z a v).byteAt (at_ k) = s.byteAt (at_ k)) ∧
    (∀ b, ¬s.covers z a b → (s.store z a v).byteAt b = s.byteAt b)

/-- StackRead and StackWrite (20 R112): memory below SP (unsigned: derived by the spec, log 48), otherwise the local register that bits 7..2 name
absolutely. -/
def Obligations.StackAddressMode : Prop :=
  ∀ (s : State) (a v : Word),
    (a.toNat < s.sp.toNat → s.stackRead a = s.memRead .word a ∧ s.stackWrite a v = s.memWrite .word a v) ∧
    (s.sp.toNat ≤ a.toNat →
      s.stackRead a = .next (s.locals[a.toNat / 4 % 64]'(Nat.mod_lt _ (by decide)), s) ∧
      s.stackWrite a v = .next { s with locals := s.locals.set (a.toNat / 4 % 64) v (Nat.mod_lt _ (by decide)) })

/-! ## Loads and stores (40) -/

/-- The loads from memory in all their address modes (40 R170 to R189, R194 to R199): a forbidden destination is refused; a zero address register
raises a Pointer Error with the register still advanced and nothing loaded; otherwise Rs, or Rs//Rsf from two words, takes what memory
holds, sign- or zero-expanded; that it stays over an advanced address register that is the same one is derived by the spec (R179; log 51, DEDUCED,
unsafe), and that nothing is loaded at a Pointer Error is the spec's decision D13. -/
def Obligations.LoadsFromMemory : Prop :=
  ∀ (i : Instr) (x : Access) (s : State), i.loadForm = some x → x.encodable = true → s.runs x.len x.global →
    let u := x.advance s (s.underway x.len 0 s.flags)
    let z := x.type.size
    let a := x.addressOf s
    let v := (match x.type with
      | .byteS => (s.valueAt z a).extractLsb' 0 8 |>.signExtend 32
      | .halfS => (s.valueAt z a).extractLsb' 0 16 |>.signExtend 32
      | _ => s.valueAt z a : Word)
    (x.loadable = false → exec i s = .refused .loadDestination) ∧
    (x.loadable = true → x.nullPointer s = true → exec i s = s.raises u) ∧
    (x.loadable = true → x.nullPointer s = false → s.readable (x.baseOf s) a → x.type.isDouble = false →
      exec i s = .next (((u.afterRead z a).put x.data v).settle s.delay)) ∧
    (x.loadable = true → x.nullPointer s = false → s.readable (x.baseOf s) a → s.readable (x.baseOf s) (a + 4) → x.type.isDouble = true →
      ∀ rsf, followSlot x.data = some rsf →
        exec i s = .next (((((u.afterRead z a).afterRead z (a + 4)).put x.data v).putSlot ((s.afterRead z a).valueAt z (a + 4)) rsf).settle s.delay))

/-- The stores to memory in all their address modes (40 R170 to R178, R201 to R216): a zero address register raises a Pointer Error with nothing
stored (the spec's decision D13); a signed store of a value out of range stores it and raises a Range Error; the second word of a
double-word store is read after the address register has advanced (R179), and the SR code stores zeros (R177). -/
def Obligations.StoresToMemory : Prop :=
  ∀ (i : Instr) (x : Access) (s : State), i.storeForm = some x → x.encodable = true → s.runs x.len x.global →
    let u := x.advance s (s.underway x.len 0 s.flags)
    let z := x.type.size
    let a := x.addressOf s
    let v := s.stored x.len x.data
    let range := (match x.type with
      | .byteS => !decide (-128 ≤ v.toInt ∧ v.toInt ≤ 127)
      | .halfS => !decide (-32768 ≤ v.toInt ∧ v.toInt ≤ 32767)
      | _ => false : Bool)
    (x.type.isDouble = true → x.data.isSr = false → followSlot x.data = none → exec i s = .refused .reservedRegister) ∧
    (x.type.isDouble = false → x.nullPointer s = true → exec i s = s.raises u) ∧
    (x.type.isDouble = false → x.nullPointer s = false → s.storable (x.baseOf s) a →
      exec i s = if range then s.raises (u.written z a v) else .next ((u.written z a v).settle s.delay)) ∧
    (x.type.isDouble = true → ∀ low, (if x.data.isSr then low = 0
        else ∃ rsf, followSlot x.data = some rsf ∧
          low = (match x.base, x.bump with
            | some r, some d => if regSlot r = rsf then s.operand x.len r + d else s.slotDuring x.len rsf
            | _, _ => s.slotDuring x.len rsf)) →
      (x.nullPointer s = true → exec i s = s.raises u) ∧
      (x.nullPointer s = false → s.storable (x.baseOf s) a → s.storable (x.baseOf s) (a + 4) →
        exec i s = .next (((u.written z a v).written z (a + 4) low).settle s.delay)))

/-- LDW.S and STW.S (40 R200, R217): the word at the stack address in Rd, memory below SP (unsigned: derived by the spec, log 48) and a local register
otherwise; Rd advances by dis whatever happens; that the loaded word, and the word stored to a register, stay over the advanced Rd that is the same
one is derived by the spec (R179, R217; log 51, DEDUCED, unsafe); nothing is loaded or stored at a Pointer Error (the spec's decision D13). -/
def Obligations.StackModeInstructions : Prop :=
  ∀ (rd rs : Reg) (dis : DisW) (s : State), rd.notPcSr = true → s.runs (disWLength dis) (rd.isGlobal || rs.isGlobal) →
    let len := disWLength dis
    let a := s.operand len rd
    let u := s.underway len 0 s.flags
    let w := u.put rd (a + disWValue dis)
    ((match rs with | .l _ => true | .g c => decide (2 ≤ c.toNat ∧ c.toNat ≤ 13) : Bool) = true →
      (a = 0 → exec (.ldwS rd rs dis) s = s.raises w) ∧
      (a ≠ 0 → s.sp.toNat ≤ a.toNat → exec (.ldwS rd rs dis) s = .next ((w.put rs (s.readAbsolute a)).settle s.delay)) ∧
      (a ≠ 0 → a.toNat < s.sp.toNat → s.readRefusal a = none →
        exec (.ldwS rd rs dis) s = .next (((w.afterRead .word a).put rs (s.valueAt .word a)).settle s.delay))) ∧
    ((match rs with | .l _ => true | .g c => decide (2 ≤ c.toNat ∧ c.toNat ≤ 13) : Bool) = false →
      exec (.ldwS rd rs dis) s = .refused .loadDestination) ∧
    (a = 0 → exec (.stwS rd rs dis) s = s.raises w) ∧
    (a ≠ 0 → s.sp.toNat ≤ a.toNat → exec (.stwS rd rs dis) s = .next ((w.writeAbsolute a (s.stored len rs)).settle s.delay)) ∧
    (a ≠ 0 → a.toNat < s.sp.toNat → s.areaRefusal (areaOf a) = none →
      exec (.stwS rd rs dis) s = .next ((w.written .word a (s.stored len rs)).settle s.delay))

/-- Loads from the I/O address space (20 R108 to R110, 40 R190, R191), of one word or of two, each by its own address: a device answers to the address
bits that leave the chip (R109; log 28), and what it has seen grows by the access; a zero address register raises a Pointer Error (40 R173), with no
access and nothing loaded (the spec's decision D13); a read of the power-down address loads any value (R110, 93 U22), and so does one of the
sleep address, which is the model's choice (61 R543; log 17, DEDUCED, unsafe), as is that the address
bits which R110 does not name are ignored there; other internal addresses are
refused (93 U22). -/
def Obligations.LoadsFromIo : Prop :=
  ∀ (i : Instr) (x : Access) (s : State), i.ioLoadForm = some x → s.runs x.len x.global →
    let u := s.underway x.len 0 s.flags
    let a := x.addressOf s &&& 0xFFFFFFFC
    let b := (x.addressOf s + 4) &&& 0xFFFFFFFC
    (x.loadable = false → exec i s = .refused .loadDestination) ∧
    (x.loadable = true → x.nullPointer s = true → exec i s = s.raises u) ∧
    (x.loadable = true → x.nullPointer s = false →
      (u.ioLoaded a = none → exec i s = .refused .ioInternal) ∧
      ∀ v t, u.ioLoaded a = some (v, t) →
        (x.type.isDouble = false → exec i s = .next ((t.put x.data v).settle s.delay)) ∧
        (x.type.isDouble = true →
          (t.ioLoaded b = none → exec i s = .refused .ioInternal) ∧
          ∀ low t', t.ioLoaded b = some (low, t') → ∀ rsf, followSlot x.data = some rsf →
            exec i s = .next (((t'.put x.data v).putSlot low rsf).settle s.delay)))

/-- Stores to the I/O address space (20 R108 to R110, 40 R192, R193, 61 R540, R543), of one word or of two, each by its own address: a device
takes the word, with the address bits that leave the chip (R109; log 28); a zero address register raises a Pointer Error (40 R173), with nothing
written (the spec's decision D13);
the internal addresses with bits 25, 24, 23 = 1 put the processor into power-down or, with bit 22 = 1, to sleep, and
the bits that R110 does not name are ignored (the model's choice, log 17, DEDUCED, unsafe); others are refused (93 U22). -/
def Obligations.StoresToIo : Prop :=
  ∀ (i : Instr) (x : Access) (s : State), i.ioStoreForm = some x → s.runs x.len x.global →
    let u := s.underway x.len 0 s.flags
    let a := x.addressOf s &&& 0xFFFFFFFC
    let b := (x.addressOf s + 4) &&& 0xFFFFFFFC
    let v := s.stored x.len x.data
    (x.type.isDouble = false → x.nullPointer s = true → exec i s = s.raises u) ∧
    (x.type.isDouble = false → x.nullPointer s = false →
      (u.ioStored a v = none → exec i s = .refused .ioInternal) ∧
      (∀ t, u.ioStored a v = some t → exec i s = .next (t.settle s.delay))) ∧
    (x.type.isDouble = true → x.data.isSr = false → followSlot x.data = none → exec i s = .refused .reservedRegister) ∧
    (x.type.isDouble = true →
      ∀ low, (if x.data.isSr then low = 0 else ∃ rsf, followSlot x.data = some rsf ∧ low = s.slotDuring x.len rsf) →
      (x.nullPointer s = true → exec i s = s.raises u) ∧
      (x.nullPointer s = false →
        (u.ioStored a v = none → exec i s = .refused .ioInternal) ∧
        ∀ t, u.ioStored a v = some t →
          (t.ioStored b low = none → exec i s = .refused .ioInternal) ∧
          (∀ t', t.ioStored b low = some t' → exec i s = .next (t'.settle s.delay))))

/-! ## Frames -/

/-- An instruction that is no load, no store, no FRAME and no RET, and, with H = 1, no MOV or MOVI, changes no register but the PC, the SR, L0 to L63
and G2 to G15, and no byte of memory, even where it raises an exception. -/
def Obligations.RegisterInstructionsFrame : Prop :=
  ∀ (i : Instr) (s t : State), i.accessesMemory = false → (∀ ld ls, i ≠ .frame ld ls) → (∀ rs, i ≠ .ret rs) →
    (s.sr.h = true → (∀ rd rs, i ≠ .mov rd rs) ∧ ∀ rd imm, i ≠ .movi rd imm) →
    exec i s = .next t → s.SameOutside t

/-- An instruction with a result register (and, with H = 1, not MOV or MOVI) reaches, before the error exception that it may raise, a state in which
every local register and every one of G2 to G15 is as it was but the result register and, where the result is a pair, the one following it;
FP, FL, S and T are as they were, and every other SR field but the flags, P, H, M and ILC unless the SR is the result register. -/
def Obligations.ResultRegistersFrame : Prop :=
  ∀ (i : Instr) (rd : Reg) (s t : State), i.dest = some rd →
    (s.sr.h = true → (∀ r rs, i ≠ .mov r rs) ∧ ∀ r imm, i ≠ .movi r imm) →
    exec i s = .next t →
    ∃ u : State, (t = u.settle s.delay ∨ s.raises u = .next t) ∧
      (∀ j : Fin 64, (∀ c, rd = .l c → j ≠ s.localIndex c.toNat ∧ (i.isPair = true → j ≠ s.localIndex (c.toNat + 1))) →
        u.locals[j] = s.locals[j]) ∧
      (∀ j : Fin 14, (∀ c, rd = .g c → j.val + 2 ≠ c.toNat ∧ (i.isPair = true → j.val + 1 ≠ c.toNat)) → u.g[j] = s.g[j]) ∧
      u.sr.fp = s.sr.fp ∧ u.sr.fl = s.sr.fl ∧ u.sr.s = s.sr.s ∧ u.sr.t = s.sr.t ∧
      (rd ≠ .g 1 → u.sr.l = s.sr.l ∧ u.sr.i = s.sr.i ∧ u.sr.frm = s.sr.frm ∧ u.sr.fte = s.sr.fte ∧ u.sr.r6 = s.sr.r6)

/-- A store to memory that answers a next state, with or without an exception, has changed no byte but those of the address its mode gives and, for a
double-word, the four bytes after; a load, from memory, the I/O space or in stack mode, has changed none. -/
def Obligations.MemoryInstructionsFrame : Prop :=
  (∀ (i : Instr) (x : Access) (s t : State), i.storeForm = some x → x.encodable = true → exec i s = .next t →
    ∀ b : Word, ¬s.covers x.type.size (x.addressOf s) b → (x.type.isDouble = true → ¬s.covers .word (x.addressOf s + 4) b) →
      t.byteAt b = s.byteAt b) ∧
  (∀ (i : Instr) (s t : State), i.loadForm.isSome = true ∨ i.ioLoadForm.isSome = true ∨ (∃ rd rs dis, i = .ldwS rd rs dis) →
    exec i s = .next t → ∀ b : Word, t.byteAt b = s.byteAt b)

/-- With H = 1 every instruction but MOV and MOVI whose encoding names a global register is refused (93 U4); after a Delayed Branch every branching
instruction and FETCH (93 U36; the Delayed Branch is not among them: log 22), and of the others every one that together with it is
longer than three half-words (93 U37). -/
def Obligations.FormsWithoutMeaning : Prop :=
  ∀ (i : Instr) (s : State), i.wellFormed = true →
    (s.sr.h = true → i.isMove = false → i.namesGlobal = true → exec i s = .refused .highGlobal) ∧
    (s.delay ≠ .none → (s.sr.h = false ∨ i.isMove = true ∨ i.namesGlobal = false) →
      (i.mustNotDelay s.sr.h = true → exec i s = .refused .branchInDelaySlot) ∧
      (i.mustNotDelay s.sr.h = false → 3 < s.sr.ilc.toNat + (encode i).length → exec i s = .refused .delayPairTooLong))
end

