-- ==== Sys2Proof/Laws/State.lean ====
section
/-! SUPPORT. Laws/State.lean: what each update of the state leaves in each field, true by rfl, so that no proof unfolds a record update. -/

namespace Sys2Proof.Machine

/-! ## writeLocal -/

@[simp] theorem State.writeLocal_pc (s : State) (k : Nat) (v : Word) : (s.writeLocal k v).pc = s.pc := rfl

@[simp] theorem State.writeLocal_sr (s : State) (k : Nat) (v : Word) : (s.writeLocal k v).sr = s.sr := rfl

@[simp] theorem State.writeLocal_g (s : State) (k : Nat) (v : Word) : (s.writeLocal k v).g = s.g := rfl

@[simp] theorem State.writeLocal_locals (s : State) (k : Nat) (v : Word) : (s.writeLocal k v).locals = s.locals.set (s.localIndex k) v := rfl

@[simp] theorem State.writeLocal_sp (s : State) (k : Nat) (v : Word) : (s.writeLocal k v).sp = s.sp := rfl

@[simp] theorem State.writeLocal_ub (s : State) (k : Nat) (v : Word) : (s.writeLocal k v).ub = s.ub := rfl

@[simp] theorem State.writeLocal_fcr (s : State) (k : Nat) (v : Word) : (s.writeLocal k v).fcr = s.fcr := rfl

@[simp] theorem State.writeLocal_timer (s : State) (k : Nat) (v : Word) : (s.writeLocal k v).timer = s.timer := rfl

@[simp] theorem State.writeLocal_io3 (s : State) (k : Nat) (v : Word) : (s.writeLocal k v).io3 = s.io3 := rfl

@[simp] theorem State.writeLocal_bus (s : State) (k : Nat) (v : Word) : (s.writeLocal k v).bus = s.bus := rfl

@[simp] theorem State.writeLocal_clockOnFlag (s : State) (k : Nat) (v : Word) : (s.writeLocal k v).clockOnFlag = s.clockOnFlag := rfl

@[simp] theorem State.writeLocal_watchdogFlag (s : State) (k : Nat) (v : Word) : (s.writeLocal k v).watchdogFlag = s.watchdogFlag := rfl

@[simp] theorem State.writeLocal_eovPending (s : State) (k : Nat) (v : Word) : (s.writeLocal k v).eovPending = s.eovPending := rfl

@[simp] theorem State.writeLocal_parityPending (s : State) (k : Nat) (v : Word) : (s.writeLocal k v).parityPending = s.parityPending := rfl

@[simp] theorem State.writeLocal_delay (s : State) (k : Nat) (v : Word) : (s.writeLocal k v).delay = s.delay := rfl

@[simp] theorem State.writeLocal_callLockout (s : State) (k : Nat) (v : Word) : (s.writeLocal k v).callLockout = s.callLockout := rfl

@[simp] theorem State.writeLocal_power (s : State) (k : Nat) (v : Word) : (s.writeLocal k v).power = s.power := rfl

@[simp] theorem State.writeLocal_mem (s : State) (k : Nat) (v : Word) : (s.writeLocal k v).mem = s.mem := rfl

@[simp] theorem State.writeLocal_lost (s : State) (k : Nat) (v : Word) : (s.writeLocal k v).lost = s.lost := rfl

@[simp] theorem State.writeLocal_cache (s : State) (k : Nat) (v : Word) : (s.writeLocal k v).cache = s.cache := rfl

@[simp] theorem State.writeLocal_pins (s : State) (k : Nat) (v : Word) : (s.writeLocal k v).pins = s.pins := rfl

@[simp] theorem State.writeLocal_parityLines (s : State) (k : Nat) (v : Word) : (s.writeLocal k v).parityLines = s.parityLines := rfl

@[simp] theorem State.writeLocal_schedule (s : State) (k : Nat) (v : Word) : (s.writeLocal k v).schedule = s.schedule := rfl

@[simp] theorem State.writeLocal_platform (s : State) (k : Nat) (v : Word) : (s.writeLocal k v).platform = s.platform := rfl

@[simp] theorem State.writeLocal_ioLog (s : State) (k : Nat) (v : Word) : (s.writeLocal k v).ioLog = s.ioLog := rfl

@[simp] theorem State.writeLocal_draws (s : State) (k : Nat) (v : Word) : (s.writeLocal k v).draws = s.draws := rfl

/-! ## writeGlobal -/

@[simp] theorem State.writeGlobal_pc (s : State) (c : BitVec 4) (v : Word) : (s.writeGlobal c v).pc = s.pc := rfl

@[simp] theorem State.writeGlobal_sr (s : State) (c : BitVec 4) (v : Word) : (s.writeGlobal c v).sr = s.sr := rfl

@[simp] theorem State.writeGlobal_g (s : State) (c : BitVec 4) (v : Word) : (s.writeGlobal c v).g = s.g.set (globalIndex c) v := rfl

@[simp] theorem State.writeGlobal_locals (s : State) (c : BitVec 4) (v : Word) : (s.writeGlobal c v).locals = s.locals := rfl

@[simp] theorem State.writeGlobal_sp (s : State) (c : BitVec 4) (v : Word) : (s.writeGlobal c v).sp = s.sp := rfl

@[simp] theorem State.writeGlobal_ub (s : State) (c : BitVec 4) (v : Word) : (s.writeGlobal c v).ub = s.ub := rfl

@[simp] theorem State.writeGlobal_fcr (s : State) (c : BitVec 4) (v : Word) : (s.writeGlobal c v).fcr = s.fcr := rfl

@[simp] theorem State.writeGlobal_timer (s : State) (c : BitVec 4) (v : Word) : (s.writeGlobal c v).timer = s.timer := rfl

@[simp] theorem State.writeGlobal_io3 (s : State) (c : BitVec 4) (v : Word) : (s.writeGlobal c v).io3 = s.io3 := rfl

@[simp] theorem State.writeGlobal_bus (s : State) (c : BitVec 4) (v : Word) : (s.writeGlobal c v).bus = s.bus := rfl

@[simp] theorem State.writeGlobal_clockOnFlag (s : State) (c : BitVec 4) (v : Word) : (s.writeGlobal c v).clockOnFlag = s.clockOnFlag := rfl

@[simp] theorem State.writeGlobal_watchdogFlag (s : State) (c : BitVec 4) (v : Word) : (s.writeGlobal c v).watchdogFlag = s.watchdogFlag := rfl

@[simp] theorem State.writeGlobal_eovPending (s : State) (c : BitVec 4) (v : Word) : (s.writeGlobal c v).eovPending = s.eovPending := rfl

@[simp] theorem State.writeGlobal_parityPending (s : State) (c : BitVec 4) (v : Word) : (s.writeGlobal c v).parityPending = s.parityPending := rfl

@[simp] theorem State.writeGlobal_delay (s : State) (c : BitVec 4) (v : Word) : (s.writeGlobal c v).delay = s.delay := rfl

@[simp] theorem State.writeGlobal_callLockout (s : State) (c : BitVec 4) (v : Word) : (s.writeGlobal c v).callLockout = s.callLockout := rfl

@[simp] theorem State.writeGlobal_power (s : State) (c : BitVec 4) (v : Word) : (s.writeGlobal c v).power = s.power := rfl

@[simp] theorem State.writeGlobal_mem (s : State) (c : BitVec 4) (v : Word) : (s.writeGlobal c v).mem = s.mem := rfl

@[simp] theorem State.writeGlobal_lost (s : State) (c : BitVec 4) (v : Word) : (s.writeGlobal c v).lost = s.lost := rfl

@[simp] theorem State.writeGlobal_cache (s : State) (c : BitVec 4) (v : Word) : (s.writeGlobal c v).cache = s.cache := rfl

@[simp] theorem State.writeGlobal_pins (s : State) (c : BitVec 4) (v : Word) : (s.writeGlobal c v).pins = s.pins := rfl

@[simp] theorem State.writeGlobal_parityLines (s : State) (c : BitVec 4) (v : Word) : (s.writeGlobal c v).parityLines = s.parityLines := rfl

@[simp] theorem State.writeGlobal_schedule (s : State) (c : BitVec 4) (v : Word) : (s.writeGlobal c v).schedule = s.schedule := rfl

@[simp] theorem State.writeGlobal_platform (s : State) (c : BitVec 4) (v : Word) : (s.writeGlobal c v).platform = s.platform := rfl

@[simp] theorem State.writeGlobal_ioLog (s : State) (c : BitVec 4) (v : Word) : (s.writeGlobal c v).ioLog = s.ioLog := rfl

@[simp] theorem State.writeGlobal_draws (s : State) (c : BitVec 4) (v : Word) : (s.writeGlobal c v).draws = s.draws := rfl

/-! ## writeAbsolute -/

@[simp] theorem State.writeAbsolute_pc (s : State) (a v : Word) : (s.writeAbsolute a v).pc = s.pc := rfl

@[simp] theorem State.writeAbsolute_sr (s : State) (a v : Word) : (s.writeAbsolute a v).sr = s.sr := rfl

@[simp] theorem State.writeAbsolute_g (s : State) (a v : Word) : (s.writeAbsolute a v).g = s.g := rfl

@[simp] theorem State.writeAbsolute_locals (s : State) (a v : Word) : (s.writeAbsolute a v).locals = s.locals.set (stackIndex a) v := rfl

@[simp] theorem State.writeAbsolute_sp (s : State) (a v : Word) : (s.writeAbsolute a v).sp = s.sp := rfl

@[simp] theorem State.writeAbsolute_ub (s : State) (a v : Word) : (s.writeAbsolute a v).ub = s.ub := rfl

@[simp] theorem State.writeAbsolute_fcr (s : State) (a v : Word) : (s.writeAbsolute a v).fcr = s.fcr := rfl

@[simp] theorem State.writeAbsolute_timer (s : State) (a v : Word) : (s.writeAbsolute a v).timer = s.timer := rfl

@[simp] theorem State.writeAbsolute_io3 (s : State) (a v : Word) : (s.writeAbsolute a v).io3 = s.io3 := rfl

@[simp] theorem State.writeAbsolute_bus (s : State) (a v : Word) : (s.writeAbsolute a v).bus = s.bus := rfl

@[simp] theorem State.writeAbsolute_clockOnFlag (s : State) (a v : Word) : (s.writeAbsolute a v).clockOnFlag = s.clockOnFlag := rfl

@[simp] theorem State.writeAbsolute_watchdogFlag (s : State) (a v : Word) : (s.writeAbsolute a v).watchdogFlag = s.watchdogFlag := rfl

@[simp] theorem State.writeAbsolute_eovPending (s : State) (a v : Word) : (s.writeAbsolute a v).eovPending = s.eovPending := rfl

@[simp] theorem State.writeAbsolute_parityPending (s : State) (a v : Word) : (s.writeAbsolute a v).parityPending = s.parityPending := rfl

@[simp] theorem State.writeAbsolute_delay (s : State) (a v : Word) : (s.writeAbsolute a v).delay = s.delay := rfl

@[simp] theorem State.writeAbsolute_callLockout (s : State) (a v : Word) : (s.writeAbsolute a v).callLockout = s.callLockout := rfl

@[simp] theorem State.writeAbsolute_power (s : State) (a v : Word) : (s.writeAbsolute a v).power = s.power := rfl

@[simp] theorem State.writeAbsolute_mem (s : State) (a v : Word) : (s.writeAbsolute a v).mem = s.mem := rfl

@[simp] theorem State.writeAbsolute_lost (s : State) (a v : Word) : (s.writeAbsolute a v).lost = s.lost := rfl

@[simp] theorem State.writeAbsolute_cache (s : State) (a v : Word) : (s.writeAbsolute a v).cache = s.cache := rfl

@[simp] theorem State.writeAbsolute_pins (s : State) (a v : Word) : (s.writeAbsolute a v).pins = s.pins := rfl

@[simp] theorem State.writeAbsolute_parityLines (s : State) (a v : Word) : (s.writeAbsolute a v).parityLines = s.parityLines := rfl

@[simp] theorem State.writeAbsolute_schedule (s : State) (a v : Word) : (s.writeAbsolute a v).schedule = s.schedule := rfl

@[simp] theorem State.writeAbsolute_platform (s : State) (a v : Word) : (s.writeAbsolute a v).platform = s.platform := rfl

@[simp] theorem State.writeAbsolute_ioLog (s : State) (a v : Word) : (s.writeAbsolute a v).ioLog = s.ioLog := rfl

@[simp] theorem State.writeAbsolute_draws (s : State) (a v : Word) : (s.writeAbsolute a v).draws = s.draws := rfl

/-! ## setFlags -/

@[simp] theorem State.setFlags_pc (s : State) (f : Flags) : (s.setFlags f).pc = s.pc := rfl

@[simp] theorem State.setFlags_sr (s : State) (f : Flags) : (s.setFlags f).sr = s.sr.setFlags f := rfl

@[simp] theorem State.setFlags_g (s : State) (f : Flags) : (s.setFlags f).g = s.g := rfl

@[simp] theorem State.setFlags_locals (s : State) (f : Flags) : (s.setFlags f).locals = s.locals := rfl

@[simp] theorem State.setFlags_sp (s : State) (f : Flags) : (s.setFlags f).sp = s.sp := rfl

@[simp] theorem State.setFlags_ub (s : State) (f : Flags) : (s.setFlags f).ub = s.ub := rfl

@[simp] theorem State.setFlags_fcr (s : State) (f : Flags) : (s.setFlags f).fcr = s.fcr := rfl

@[simp] theorem State.setFlags_timer (s : State) (f : Flags) : (s.setFlags f).timer = s.timer := rfl

@[simp] theorem State.setFlags_io3 (s : State) (f : Flags) : (s.setFlags f).io3 = s.io3 := rfl

@[simp] theorem State.setFlags_bus (s : State) (f : Flags) : (s.setFlags f).bus = s.bus := rfl

@[simp] theorem State.setFlags_clockOnFlag (s : State) (f : Flags) : (s.setFlags f).clockOnFlag = s.clockOnFlag := rfl

@[simp] theorem State.setFlags_watchdogFlag (s : State) (f : Flags) : (s.setFlags f).watchdogFlag = s.watchdogFlag := rfl

@[simp] theorem State.setFlags_eovPending (s : State) (f : Flags) : (s.setFlags f).eovPending = s.eovPending := rfl

@[simp] theorem State.setFlags_parityPending (s : State) (f : Flags) : (s.setFlags f).parityPending = s.parityPending := rfl

@[simp] theorem State.setFlags_delay (s : State) (f : Flags) : (s.setFlags f).delay = s.delay := rfl

@[simp] theorem State.setFlags_callLockout (s : State) (f : Flags) : (s.setFlags f).callLockout = s.callLockout := rfl

@[simp] theorem State.setFlags_power (s : State) (f : Flags) : (s.setFlags f).power = s.power := rfl

@[simp] theorem State.setFlags_mem (s : State) (f : Flags) : (s.setFlags f).mem = s.mem := rfl

@[simp] theorem State.setFlags_lost (s : State) (f : Flags) : (s.setFlags f).lost = s.lost := rfl

@[simp] theorem State.setFlags_cache (s : State) (f : Flags) : (s.setFlags f).cache = s.cache := rfl

@[simp] theorem State.setFlags_pins (s : State) (f : Flags) : (s.setFlags f).pins = s.pins := rfl

@[simp] theorem State.setFlags_parityLines (s : State) (f : Flags) : (s.setFlags f).parityLines = s.parityLines := rfl

@[simp] theorem State.setFlags_schedule (s : State) (f : Flags) : (s.setFlags f).schedule = s.schedule := rfl

@[simp] theorem State.setFlags_platform (s : State) (f : Flags) : (s.setFlags f).platform = s.platform := rfl

@[simp] theorem State.setFlags_ioLog (s : State) (f : Flags) : (s.setFlags f).ioLog = s.ioLog := rfl

@[simp] theorem State.setFlags_draws (s : State) (f : Flags) : (s.setFlags f).draws = s.draws := rfl

/-! ## drawn -/

@[simp] theorem State.drawn_pc (s : State) (k : Nat) : (s.drawn k).pc = s.pc := rfl

@[simp] theorem State.drawn_sr (s : State) (k : Nat) : (s.drawn k).sr = s.sr := rfl

@[simp] theorem State.drawn_g (s : State) (k : Nat) : (s.drawn k).g = s.g := rfl

@[simp] theorem State.drawn_locals (s : State) (k : Nat) : (s.drawn k).locals = s.locals := rfl

@[simp] theorem State.drawn_sp (s : State) (k : Nat) : (s.drawn k).sp = s.sp := rfl

@[simp] theorem State.drawn_ub (s : State) (k : Nat) : (s.drawn k).ub = s.ub := rfl

@[simp] theorem State.drawn_fcr (s : State) (k : Nat) : (s.drawn k).fcr = s.fcr := rfl

@[simp] theorem State.drawn_timer (s : State) (k : Nat) : (s.drawn k).timer = s.timer := rfl

@[simp] theorem State.drawn_io3 (s : State) (k : Nat) : (s.drawn k).io3 = s.io3 := rfl

@[simp] theorem State.drawn_bus (s : State) (k : Nat) : (s.drawn k).bus = s.bus := rfl

@[simp] theorem State.drawn_clockOnFlag (s : State) (k : Nat) : (s.drawn k).clockOnFlag = s.clockOnFlag := rfl

@[simp] theorem State.drawn_watchdogFlag (s : State) (k : Nat) : (s.drawn k).watchdogFlag = s.watchdogFlag := rfl

@[simp] theorem State.drawn_eovPending (s : State) (k : Nat) : (s.drawn k).eovPending = s.eovPending := rfl

@[simp] theorem State.drawn_parityPending (s : State) (k : Nat) : (s.drawn k).parityPending = s.parityPending := rfl

@[simp] theorem State.drawn_delay (s : State) (k : Nat) : (s.drawn k).delay = s.delay := rfl

@[simp] theorem State.drawn_callLockout (s : State) (k : Nat) : (s.drawn k).callLockout = s.callLockout := rfl

@[simp] theorem State.drawn_power (s : State) (k : Nat) : (s.drawn k).power = s.power := rfl

@[simp] theorem State.drawn_mem (s : State) (k : Nat) : (s.drawn k).mem = s.mem := rfl

@[simp] theorem State.drawn_lost (s : State) (k : Nat) : (s.drawn k).lost = s.lost := rfl

@[simp] theorem State.drawn_cache (s : State) (k : Nat) : (s.drawn k).cache = s.cache := rfl

@[simp] theorem State.drawn_pins (s : State) (k : Nat) : (s.drawn k).pins = s.pins := rfl

@[simp] theorem State.drawn_parityLines (s : State) (k : Nat) : (s.drawn k).parityLines = s.parityLines := rfl

@[simp] theorem State.drawn_schedule (s : State) (k : Nat) : (s.drawn k).schedule = s.schedule := rfl

@[simp] theorem State.drawn_platform (s : State) (k : Nat) : (s.drawn k).platform = s.platform := rfl

@[simp] theorem State.drawn_ioLog (s : State) (k : Nat) : (s.drawn k).ioLog = s.ioLog := rfl

@[simp] theorem State.drawn_draws (s : State) (k : Nat) : (s.drawn k).draws = s.draws + k := rfl

/-! ## retire -/

@[simp] theorem State.retire_pc (s : State) : (s.retire).pc = s.pc := rfl

@[simp] theorem State.retire_sr (s : State) : (s.retire).sr = { s.sr with h := false } := rfl

@[simp] theorem State.retire_g (s : State) : (s.retire).g = s.g := rfl

@[simp] theorem State.retire_locals (s : State) : (s.retire).locals = s.locals := rfl

@[simp] theorem State.retire_sp (s : State) : (s.retire).sp = s.sp := rfl

@[simp] theorem State.retire_ub (s : State) : (s.retire).ub = s.ub := rfl

@[simp] theorem State.retire_fcr (s : State) : (s.retire).fcr = s.fcr := rfl

@[simp] theorem State.retire_timer (s : State) : (s.retire).timer = s.timer := rfl

@[simp] theorem State.retire_io3 (s : State) : (s.retire).io3 = s.io3 := rfl

@[simp] theorem State.retire_bus (s : State) : (s.retire).bus = s.bus := rfl

@[simp] theorem State.retire_clockOnFlag (s : State) : (s.retire).clockOnFlag = s.clockOnFlag := rfl

@[simp] theorem State.retire_watchdogFlag (s : State) : (s.retire).watchdogFlag = s.watchdogFlag := rfl

@[simp] theorem State.retire_eovPending (s : State) : (s.retire).eovPending = s.eovPending := rfl

@[simp] theorem State.retire_parityPending (s : State) : (s.retire).parityPending = s.parityPending := rfl

@[simp] theorem State.retire_delay (s : State) : (s.retire).delay = .none := rfl

@[simp] theorem State.retire_callLockout (s : State) : (s.retire).callLockout = false := rfl

@[simp] theorem State.retire_power (s : State) : (s.retire).power = s.power := rfl

@[simp] theorem State.retire_mem (s : State) : (s.retire).mem = s.mem := rfl

@[simp] theorem State.retire_lost (s : State) : (s.retire).lost = s.lost := rfl

@[simp] theorem State.retire_cache (s : State) : (s.retire).cache = s.cache := rfl

@[simp] theorem State.retire_pins (s : State) : (s.retire).pins = s.pins := rfl

@[simp] theorem State.retire_parityLines (s : State) : (s.retire).parityLines = s.parityLines := rfl

@[simp] theorem State.retire_schedule (s : State) : (s.retire).schedule = s.schedule := rfl

@[simp] theorem State.retire_platform (s : State) : (s.retire).platform = s.platform := rfl

@[simp] theorem State.retire_ioLog (s : State) : (s.retire).ioLog = s.ioLog := rfl

@[simp] theorem State.retire_draws (s : State) : (s.retire).draws = s.draws := rfl

/-! ## afterRead -/

@[simp] theorem State.afterRead_pc (s : State) (z : Size) (a : Word) : (s.afterRead z a).pc = s.pc := rfl

@[simp] theorem State.afterRead_sr (s : State) (z : Size) (a : Word) : (s.afterRead z a).sr = s.sr := rfl

@[simp] theorem State.afterRead_g (s : State) (z : Size) (a : Word) : (s.afterRead z a).g = s.g := rfl

@[simp] theorem State.afterRead_locals (s : State) (z : Size) (a : Word) : (s.afterRead z a).locals = s.locals := rfl

@[simp] theorem State.afterRead_sp (s : State) (z : Size) (a : Word) : (s.afterRead z a).sp = s.sp := rfl

@[simp] theorem State.afterRead_ub (s : State) (z : Size) (a : Word) : (s.afterRead z a).ub = s.ub := rfl

@[simp] theorem State.afterRead_fcr (s : State) (z : Size) (a : Word) : (s.afterRead z a).fcr = s.fcr := rfl

@[simp] theorem State.afterRead_timer (s : State) (z : Size) (a : Word) : (s.afterRead z a).timer = s.timer := rfl

@[simp] theorem State.afterRead_io3 (s : State) (z : Size) (a : Word) : (s.afterRead z a).io3 = s.io3 := rfl

@[simp] theorem State.afterRead_bus (s : State) (z : Size) (a : Word) : (s.afterRead z a).bus = s.bus := rfl

@[simp] theorem State.afterRead_clockOnFlag (s : State) (z : Size) (a : Word) : (s.afterRead z a).clockOnFlag = s.clockOnFlag := rfl

@[simp] theorem State.afterRead_watchdogFlag (s : State) (z : Size) (a : Word) : (s.afterRead z a).watchdogFlag = s.watchdogFlag := rfl

@[simp] theorem State.afterRead_eovPending (s : State) (z : Size) (a : Word) : (s.afterRead z a).eovPending = s.eovPending := rfl

@[simp] theorem State.afterRead_parityPending (s : State) (z : Size) (a : Word) : (s.afterRead z a).parityPending = (s.parityPending || s.parityHit (areaOf a)) := rfl

@[simp] theorem State.afterRead_delay (s : State) (z : Size) (a : Word) : (s.afterRead z a).delay = s.delay := rfl

@[simp] theorem State.afterRead_callLockout (s : State) (z : Size) (a : Word) : (s.afterRead z a).callLockout = s.callLockout := rfl

@[simp] theorem State.afterRead_power (s : State) (z : Size) (a : Word) : (s.afterRead z a).power = s.power := rfl

@[simp] theorem State.afterRead_mem (s : State) (z : Size) (a : Word) : (s.afterRead z a).mem = s.mem := rfl

@[simp] theorem State.afterRead_lost (s : State) (z : Size) (a : Word) : (s.afterRead z a).lost = s.lost := rfl

@[simp] theorem State.afterRead_cache (s : State) (z : Size) (a : Word) : (s.afterRead z a).cache = s.cache := rfl

@[simp] theorem State.afterRead_pins (s : State) (z : Size) (a : Word) : (s.afterRead z a).pins = s.pins := rfl

@[simp] theorem State.afterRead_parityLines (s : State) (z : Size) (a : Word) : (s.afterRead z a).parityLines = s.parityLines := rfl

@[simp] theorem State.afterRead_schedule (s : State) (z : Size) (a : Word) : (s.afterRead z a).schedule = s.schedule := rfl

@[simp] theorem State.afterRead_platform (s : State) (z : Size) (a : Word) : (s.afterRead z a).platform = s.platform := rfl

@[simp] theorem State.afterRead_ioLog (s : State) (z : Size) (a : Word) : (s.afterRead z a).ioLog = s.ioLog := rfl

@[simp] theorem State.afterRead_draws (s : State) (z : Size) (a : Word) : (s.afterRead z a).draws = if s.connected z (z.align a) then s.draws else s.draws + 4 := rfl

/-! ## jump -/

@[simp] theorem State.jump_pc (s : State) (a : Word) : (s.jump a).pc = evenAddress a := rfl

@[simp] theorem State.jump_sr (s : State) (a : Word) : (s.jump a).sr = { s.sr with ilc := s.fresh.extractLsb' 0 2 } := rfl

@[simp] theorem State.jump_g (s : State) (a : Word) : (s.jump a).g = s.g := rfl

@[simp] theorem State.jump_locals (s : State) (a : Word) : (s.jump a).locals = s.locals := rfl

@[simp] theorem State.jump_sp (s : State) (a : Word) : (s.jump a).sp = s.sp := rfl

@[simp] theorem State.jump_ub (s : State) (a : Word) : (s.jump a).ub = s.ub := rfl

@[simp] theorem State.jump_fcr (s : State) (a : Word) : (s.jump a).fcr = s.fcr := rfl

@[simp] theorem State.jump_timer (s : State) (a : Word) : (s.jump a).timer = s.timer := rfl

@[simp] theorem State.jump_io3 (s : State) (a : Word) : (s.jump a).io3 = s.io3 := rfl

@[simp] theorem State.jump_bus (s : State) (a : Word) : (s.jump a).bus = s.bus := rfl

@[simp] theorem State.jump_clockOnFlag (s : State) (a : Word) : (s.jump a).clockOnFlag = s.clockOnFlag := rfl

@[simp] theorem State.jump_watchdogFlag (s : State) (a : Word) : (s.jump a).watchdogFlag = s.watchdogFlag := rfl

@[simp] theorem State.jump_eovPending (s : State) (a : Word) : (s.jump a).eovPending = s.eovPending := rfl

@[simp] theorem State.jump_parityPending (s : State) (a : Word) : (s.jump a).parityPending = s.parityPending := rfl

@[simp] theorem State.jump_delay (s : State) (a : Word) : (s.jump a).delay = s.delay := rfl

@[simp] theorem State.jump_callLockout (s : State) (a : Word) : (s.jump a).callLockout = s.callLockout := rfl

@[simp] theorem State.jump_power (s : State) (a : Word) : (s.jump a).power = s.power := rfl

@[simp] theorem State.jump_mem (s : State) (a : Word) : (s.jump a).mem = s.mem := rfl

@[simp] theorem State.jump_lost (s : State) (a : Word) : (s.jump a).lost = s.lost := rfl

@[simp] theorem State.jump_cache (s : State) (a : Word) : (s.jump a).cache = s.cache := rfl

@[simp] theorem State.jump_pins (s : State) (a : Word) : (s.jump a).pins = s.pins := rfl

@[simp] theorem State.jump_parityLines (s : State) (a : Word) : (s.jump a).parityLines = s.parityLines := rfl

@[simp] theorem State.jump_schedule (s : State) (a : Word) : (s.jump a).schedule = s.schedule := rfl

@[simp] theorem State.jump_platform (s : State) (a : Word) : (s.jump a).platform = s.platform := rfl

@[simp] theorem State.jump_ioLog (s : State) (a : Word) : (s.jump a).ioLog = s.ioLog := rfl

@[simp] theorem State.jump_draws (s : State) (a : Word) : (s.jump a).draws = s.draws + 1 := rfl

/-! ## branchTo -/

@[simp] theorem State.branchTo_pc (s : State) (a : Word) : (s.branchTo a).pc = evenAddress a := rfl

@[simp] theorem State.branchTo_sr (s : State) (a : Word) : (s.branchTo a).sr = { s.sr with m := false, ilc := s.fresh.extractLsb' 0 2 } := rfl

@[simp] theorem State.branchTo_g (s : State) (a : Word) : (s.branchTo a).g = s.g := rfl

@[simp] theorem State.branchTo_locals (s : State) (a : Word) : (s.branchTo a).locals = s.locals := rfl

@[simp] theorem State.branchTo_sp (s : State) (a : Word) : (s.branchTo a).sp = s.sp := rfl

@[simp] theorem State.branchTo_ub (s : State) (a : Word) : (s.branchTo a).ub = s.ub := rfl

@[simp] theorem State.branchTo_fcr (s : State) (a : Word) : (s.branchTo a).fcr = s.fcr := rfl

@[simp] theorem State.branchTo_timer (s : State) (a : Word) : (s.branchTo a).timer = s.timer := rfl

@[simp] theorem State.branchTo_io3 (s : State) (a : Word) : (s.branchTo a).io3 = s.io3 := rfl

@[simp] theorem State.branchTo_bus (s : State) (a : Word) : (s.branchTo a).bus = s.bus := rfl

@[simp] theorem State.branchTo_clockOnFlag (s : State) (a : Word) : (s.branchTo a).clockOnFlag = s.clockOnFlag := rfl

@[simp] theorem State.branchTo_watchdogFlag (s : State) (a : Word) : (s.branchTo a).watchdogFlag = s.watchdogFlag := rfl

@[simp] theorem State.branchTo_eovPending (s : State) (a : Word) : (s.branchTo a).eovPending = s.eovPending := rfl

@[simp] theorem State.branchTo_parityPending (s : State) (a : Word) : (s.branchTo a).parityPending = s.parityPending := rfl

@[simp] theorem State.branchTo_delay (s : State) (a : Word) : (s.branchTo a).delay = s.delay := rfl

@[simp] theorem State.branchTo_callLockout (s : State) (a : Word) : (s.branchTo a).callLockout = s.callLockout := rfl

@[simp] theorem State.branchTo_power (s : State) (a : Word) : (s.branchTo a).power = s.power := rfl

@[simp] theorem State.branchTo_mem (s : State) (a : Word) : (s.branchTo a).mem = s.mem := rfl

@[simp] theorem State.branchTo_lost (s : State) (a : Word) : (s.branchTo a).lost = s.lost := rfl

@[simp] theorem State.branchTo_cache (s : State) (a : Word) : (s.branchTo a).cache = s.cache.flush a := rfl

@[simp] theorem State.branchTo_pins (s : State) (a : Word) : (s.branchTo a).pins = s.pins := rfl

@[simp] theorem State.branchTo_parityLines (s : State) (a : Word) : (s.branchTo a).parityLines = s.parityLines := rfl

@[simp] theorem State.branchTo_schedule (s : State) (a : Word) : (s.branchTo a).schedule = s.schedule := rfl

@[simp] theorem State.branchTo_platform (s : State) (a : Word) : (s.branchTo a).platform = s.platform := rfl

@[simp] theorem State.branchTo_ioLog (s : State) (a : Word) : (s.branchTo a).ioLog = s.ioLog := rfl

@[simp] theorem State.branchTo_draws (s : State) (a : Word) : (s.branchTo a).draws = s.draws + 1 := rfl

/-! ## openFrame -/

@[simp] theorem State.openFrame_pc (s : State) (k : Nat) (ret : Word) (o : StatusReg) (fl : BitVec 4) : (s.openFrame k ret o fl).pc = s.pc := rfl

@[simp] theorem State.openFrame_sr (s : State) (k : Nat) (ret : Word) (o : StatusReg) (fl : BitVec 4) : (s.openFrame k ret o fl).sr = { s.sr with fp := s.sr.fp + BitVec.ofNat 7 k, fl := fl, m := false, h := false } := rfl

@[simp] theorem State.openFrame_g (s : State) (k : Nat) (ret : Word) (o : StatusReg) (fl : BitVec 4) : (s.openFrame k ret o fl).g = s.g := rfl

@[simp] theorem State.openFrame_locals (s : State) (k : Nat) (ret : Word) (o : StatusReg) (fl : BitVec 4) : (s.openFrame k ret o fl).locals = ((s.writeLocal k (returnWord ret o.s)).writeLocal (k + 1) o.toWord).locals := rfl

@[simp] theorem State.openFrame_sp (s : State) (k : Nat) (ret : Word) (o : StatusReg) (fl : BitVec 4) : (s.openFrame k ret o fl).sp = s.sp := rfl

@[simp] theorem State.openFrame_ub (s : State) (k : Nat) (ret : Word) (o : StatusReg) (fl : BitVec 4) : (s.openFrame k ret o fl).ub = s.ub := rfl

@[simp] theorem State.openFrame_fcr (s : State) (k : Nat) (ret : Word) (o : StatusReg) (fl : BitVec 4) : (s.openFrame k ret o fl).fcr = s.fcr := rfl

@[simp] theorem State.openFrame_timer (s : State) (k : Nat) (ret : Word) (o : StatusReg) (fl : BitVec 4) : (s.openFrame k ret o fl).timer = s.timer := rfl

@[simp] theorem State.openFrame_io3 (s : State) (k : Nat) (ret : Word) (o : StatusReg) (fl : BitVec 4) : (s.openFrame k ret o fl).io3 = s.io3 := rfl

@[simp] theorem State.openFrame_bus (s : State) (k : Nat) (ret : Word) (o : StatusReg) (fl : BitVec 4) : (s.openFrame k ret o fl).bus = s.bus := rfl

@[simp] theorem State.openFrame_clockOnFlag (s : State) (k : Nat) (ret : Word) (o : StatusReg) (fl : BitVec 4) : (s.openFrame k ret o fl).clockOnFlag = s.clockOnFlag := rfl

@[simp] theorem State.openFrame_watchdogFlag (s : State) (k : Nat) (ret : Word) (o : StatusReg) (fl : BitVec 4) : (s.openFrame k ret o fl).watchdogFlag = s.watchdogFlag := rfl

@[simp] theorem State.openFrame_eovPending (s : State) (k : Nat) (ret : Word) (o : StatusReg) (fl : BitVec 4) : (s.openFrame k ret o fl).eovPending = s.eovPending := rfl

@[simp] theorem State.openFrame_parityPending (s : State) (k : Nat) (ret : Word) (o : StatusReg) (fl : BitVec 4) : (s.openFrame k ret o fl).parityPending = s.parityPending := rfl

@[simp] theorem State.openFrame_delay (s : State) (k : Nat) (ret : Word) (o : StatusReg) (fl : BitVec 4) : (s.openFrame k ret o fl).delay = s.delay := rfl

@[simp] theorem State.openFrame_callLockout (s : State) (k : Nat) (ret : Word) (o : StatusReg) (fl : BitVec 4) : (s.openFrame k ret o fl).callLockout = s.callLockout := rfl

@[simp] theorem State.openFrame_power (s : State) (k : Nat) (ret : Word) (o : StatusReg) (fl : BitVec 4) : (s.openFrame k ret o fl).power = s.power := rfl

@[simp] theorem State.openFrame_mem (s : State) (k : Nat) (ret : Word) (o : StatusReg) (fl : BitVec 4) : (s.openFrame k ret o fl).mem = s.mem := rfl

@[simp] theorem State.openFrame_lost (s : State) (k : Nat) (ret : Word) (o : StatusReg) (fl : BitVec 4) : (s.openFrame k ret o fl).lost = s.lost := rfl

@[simp] theorem State.openFrame_cache (s : State) (k : Nat) (ret : Word) (o : StatusReg) (fl : BitVec 4) : (s.openFrame k ret o fl).cache = s.cache := rfl

@[simp] theorem State.openFrame_pins (s : State) (k : Nat) (ret : Word) (o : StatusReg) (fl : BitVec 4) : (s.openFrame k ret o fl).pins = s.pins := rfl

@[simp] theorem State.openFrame_parityLines (s : State) (k : Nat) (ret : Word) (o : StatusReg) (fl : BitVec 4) : (s.openFrame k ret o fl).parityLines = s.parityLines := rfl

@[simp] theorem State.openFrame_schedule (s : State) (k : Nat) (ret : Word) (o : StatusReg) (fl : BitVec 4) : (s.openFrame k ret o fl).schedule = s.schedule := rfl

@[simp] theorem State.openFrame_platform (s : State) (k : Nat) (ret : Word) (o : StatusReg) (fl : BitVec 4) : (s.openFrame k ret o fl).platform = s.platform := rfl

@[simp] theorem State.openFrame_ioLog (s : State) (k : Nat) (ret : Word) (o : StatusReg) (fl : BitVec 4) : (s.openFrame k ret o fl).ioLog = s.ioLog := rfl

@[simp] theorem State.openFrame_draws (s : State) (k : Nat) (ret : Word) (o : StatusReg) (fl : BitVec 4) : (s.openFrame k ret o fl).draws = s.draws := rfl

/-! ## enterException -/

@[simp] theorem State.enterException_pc (s : State) (e ret : Word) (b : Bool) : (s.enterException e ret b).pc = evenAddress e := rfl

@[simp] theorem State.enterException_g (s : State) (e ret : Word) (b : Bool) : (s.enterException e ret b).g = s.g := rfl

@[simp] theorem State.enterException_sp (s : State) (e ret : Word) (b : Bool) : (s.enterException e ret b).sp = s.sp := rfl

@[simp] theorem State.enterException_ub (s : State) (e ret : Word) (b : Bool) : (s.enterException e ret b).ub = s.ub := rfl

@[simp] theorem State.enterException_fcr (s : State) (e ret : Word) (b : Bool) : (s.enterException e ret b).fcr = s.fcr := rfl

@[simp] theorem State.enterException_timer (s : State) (e ret : Word) (b : Bool) : (s.enterException e ret b).timer = s.timer := rfl

@[simp] theorem State.enterException_io3 (s : State) (e ret : Word) (b : Bool) : (s.enterException e ret b).io3 = s.io3 := rfl

@[simp] theorem State.enterException_bus (s : State) (e ret : Word) (b : Bool) : (s.enterException e ret b).bus = s.bus := rfl

@[simp] theorem State.enterException_clockOnFlag (s : State) (e ret : Word) (b : Bool) : (s.enterException e ret b).clockOnFlag = s.clockOnFlag := rfl

@[simp] theorem State.enterException_watchdogFlag (s : State) (e ret : Word) (b : Bool) : (s.enterException e ret b).watchdogFlag = s.watchdogFlag := rfl

@[simp] theorem State.enterException_eovPending (s : State) (e ret : Word) (b : Bool) : (s.enterException e ret b).eovPending = s.eovPending := rfl

@[simp] theorem State.enterException_parityPending (s : State) (e ret : Word) (b : Bool) : (s.enterException e ret b).parityPending = s.parityPending := rfl

@[simp] theorem State.enterException_delay (s : State) (e ret : Word) (b : Bool) : (s.enterException e ret b).delay = .none := rfl

@[simp] theorem State.enterException_callLockout (s : State) (e ret : Word) (b : Bool) : (s.enterException e ret b).callLockout = false := rfl

@[simp] theorem State.enterException_power (s : State) (e ret : Word) (b : Bool) : (s.enterException e ret b).power = s.power := rfl

@[simp] theorem State.enterException_mem (s : State) (e ret : Word) (b : Bool) : (s.enterException e ret b).mem = s.mem := rfl

@[simp] theorem State.enterException_lost (s : State) (e ret : Word) (b : Bool) : (s.enterException e ret b).lost = s.lost := rfl

@[simp] theorem State.enterException_cache (s : State) (e ret : Word) (b : Bool) : (s.enterException e ret b).cache = s.cache.flush e := rfl

@[simp] theorem State.enterException_pins (s : State) (e ret : Word) (b : Bool) : (s.enterException e ret b).pins = s.pins := rfl

@[simp] theorem State.enterException_parityLines (s : State) (e ret : Word) (b : Bool) : (s.enterException e ret b).parityLines = s.parityLines := rfl

@[simp] theorem State.enterException_schedule (s : State) (e ret : Word) (b : Bool) : (s.enterException e ret b).schedule = s.schedule := rfl

@[simp] theorem State.enterException_platform (s : State) (e ret : Word) (b : Bool) : (s.enterException e ret b).platform = s.platform := rfl

@[simp] theorem State.enterException_ioLog (s : State) (e ret : Word) (b : Bool) : (s.enterException e ret b).ioLog = s.ioLog := rfl

@[simp] theorem State.enterException_draws (s : State) (e ret : Word) (b : Bool) : (s.enterException e ret b).draws = s.draws := rfl

/-! ## restore -/

@[simp] theorem State.restore_pc (s : State) (a b : Word) : (s.restore a b).pc = evenAddress a := rfl

@[simp] theorem State.restore_sr (s : State) (a b : Word) : (s.restore a b).sr = returnedSr a b := rfl

@[simp] theorem State.restore_g (s : State) (a b : Word) : (s.restore a b).g = s.g := rfl

@[simp] theorem State.restore_locals (s : State) (a b : Word) : (s.restore a b).locals = s.locals := rfl

@[simp] theorem State.restore_sp (s : State) (a b : Word) : (s.restore a b).sp = s.sp := rfl

@[simp] theorem State.restore_ub (s : State) (a b : Word) : (s.restore a b).ub = s.ub := rfl

@[simp] theorem State.restore_fcr (s : State) (a b : Word) : (s.restore a b).fcr = s.fcr := rfl

@[simp] theorem State.restore_timer (s : State) (a b : Word) : (s.restore a b).timer = s.timer := rfl

@[simp] theorem State.restore_io3 (s : State) (a b : Word) : (s.restore a b).io3 = s.io3 := rfl

@[simp] theorem State.restore_bus (s : State) (a b : Word) : (s.restore a b).bus = s.bus := rfl

@[simp] theorem State.restore_clockOnFlag (s : State) (a b : Word) : (s.restore a b).clockOnFlag = s.clockOnFlag := rfl

@[simp] theorem State.restore_watchdogFlag (s : State) (a b : Word) : (s.restore a b).watchdogFlag = s.watchdogFlag := rfl

@[simp] theorem State.restore_eovPending (s : State) (a b : Word) : (s.restore a b).eovPending = s.eovPending := rfl

@[simp] theorem State.restore_parityPending (s : State) (a b : Word) : (s.restore a b).parityPending = s.parityPending := rfl

@[simp] theorem State.restore_delay (s : State) (a b : Word) : (s.restore a b).delay = s.delay := rfl

@[simp] theorem State.restore_callLockout (s : State) (a b : Word) : (s.restore a b).callLockout = s.callLockout := rfl

@[simp] theorem State.restore_power (s : State) (a b : Word) : (s.restore a b).power = s.power := rfl

@[simp] theorem State.restore_mem (s : State) (a b : Word) : (s.restore a b).mem = s.mem := rfl

@[simp] theorem State.restore_lost (s : State) (a b : Word) : (s.restore a b).lost = s.lost := rfl

@[simp] theorem State.restore_cache (s : State) (a b : Word) : (s.restore a b).cache = s.cache.flush a := rfl

@[simp] theorem State.restore_pins (s : State) (a b : Word) : (s.restore a b).pins = s.pins := rfl

@[simp] theorem State.restore_parityLines (s : State) (a b : Word) : (s.restore a b).parityLines = s.parityLines := rfl

@[simp] theorem State.restore_schedule (s : State) (a b : Word) : (s.restore a b).schedule = s.schedule := rfl

@[simp] theorem State.restore_platform (s : State) (a b : Word) : (s.restore a b).platform = s.platform := rfl

@[simp] theorem State.restore_ioLog (s : State) (a b : Word) : (s.restore a b).ioLog = s.ioLog := rfl

@[simp] theorem State.restore_draws (s : State) (a b : Word) : (s.restore a b).draws = s.draws := rfl

/-! ## begin and settle, which look at the delay state -/

@[simp] theorem State.begin_g (s : State) (n : Nat) : (s.begin n).g = s.g := by unfold State.begin; split <;> rfl

@[simp] theorem State.begin_locals (s : State) (n : Nat) : (s.begin n).locals = s.locals := by unfold State.begin; split <;> rfl

@[simp] theorem State.begin_sp (s : State) (n : Nat) : (s.begin n).sp = s.sp := by unfold State.begin; split <;> rfl

@[simp] theorem State.begin_ub (s : State) (n : Nat) : (s.begin n).ub = s.ub := by unfold State.begin; split <;> rfl

@[simp] theorem State.begin_fcr (s : State) (n : Nat) : (s.begin n).fcr = s.fcr := by unfold State.begin; split <;> rfl

@[simp] theorem State.begin_timer (s : State) (n : Nat) : (s.begin n).timer = s.timer := by unfold State.begin; split <;> rfl

@[simp] theorem State.begin_io3 (s : State) (n : Nat) : (s.begin n).io3 = s.io3 := by unfold State.begin; split <;> rfl

@[simp] theorem State.begin_bus (s : State) (n : Nat) : (s.begin n).bus = s.bus := by unfold State.begin; split <;> rfl

@[simp] theorem State.begin_clockOnFlag (s : State) (n : Nat) : (s.begin n).clockOnFlag = s.clockOnFlag := by unfold State.begin; split <;> rfl

@[simp] theorem State.begin_watchdogFlag (s : State) (n : Nat) : (s.begin n).watchdogFlag = s.watchdogFlag := by unfold State.begin; split <;> rfl

@[simp] theorem State.begin_eovPending (s : State) (n : Nat) : (s.begin n).eovPending = s.eovPending := by unfold State.begin; split <;> rfl

@[simp] theorem State.begin_parityPending (s : State) (n : Nat) : (s.begin n).parityPending = s.parityPending := by unfold State.begin; split <;> rfl

@[simp] theorem State.begin_delay (s : State) (n : Nat) : (s.begin n).delay = s.delay := by unfold State.begin; split <;> rfl

@[simp] theorem State.begin_callLockout (s : State) (n : Nat) : (s.begin n).callLockout = s.callLockout := by unfold State.begin; split <;> rfl

@[simp] theorem State.begin_power (s : State) (n : Nat) : (s.begin n).power = s.power := by unfold State.begin; split <;> rfl

@[simp] theorem State.begin_mem (s : State) (n : Nat) : (s.begin n).mem = s.mem := by unfold State.begin; split <;> rfl

@[simp] theorem State.begin_lost (s : State) (n : Nat) : (s.begin n).lost = s.lost := by unfold State.begin; split <;> rfl

@[simp] theorem State.begin_cache (s : State) (n : Nat) : (s.begin n).cache = s.cache := by unfold State.begin; split <;> rfl

@[simp] theorem State.begin_pins (s : State) (n : Nat) : (s.begin n).pins = s.pins := by unfold State.begin; split <;> rfl

@[simp] theorem State.begin_parityLines (s : State) (n : Nat) : (s.begin n).parityLines = s.parityLines := by unfold State.begin; split <;> rfl

@[simp] theorem State.begin_schedule (s : State) (n : Nat) : (s.begin n).schedule = s.schedule := by unfold State.begin; split <;> rfl

@[simp] theorem State.begin_platform (s : State) (n : Nat) : (s.begin n).platform = s.platform := by unfold State.begin; split <;> rfl

@[simp] theorem State.begin_ioLog (s : State) (n : Nat) : (s.begin n).ioLog = s.ioLog := by unfold State.begin; split <;> rfl

@[simp] theorem State.begin_draws (s : State) (n : Nat) : (s.begin n).draws = s.draws := by unfold State.begin; split <;> rfl

@[simp] theorem State.settle_pc (s : State) (d : Delay) : (s.settle d).pc = s.pc := by unfold State.settle; split <;> rfl

@[simp] theorem State.settle_g (s : State) (d : Delay) : (s.settle d).g = s.g := by unfold State.settle; split <;> rfl

@[simp] theorem State.settle_locals (s : State) (d : Delay) : (s.settle d).locals = s.locals := by unfold State.settle; split <;> rfl

@[simp] theorem State.settle_sp (s : State) (d : Delay) : (s.settle d).sp = s.sp := by unfold State.settle; split <;> rfl

@[simp] theorem State.settle_ub (s : State) (d : Delay) : (s.settle d).ub = s.ub := by unfold State.settle; split <;> rfl

@[simp] theorem State.settle_fcr (s : State) (d : Delay) : (s.settle d).fcr = s.fcr := by unfold State.settle; split <;> rfl

@[simp] theorem State.settle_timer (s : State) (d : Delay) : (s.settle d).timer = s.timer := by unfold State.settle; split <;> rfl

@[simp] theorem State.settle_io3 (s : State) (d : Delay) : (s.settle d).io3 = s.io3 := by unfold State.settle; split <;> rfl

@[simp] theorem State.settle_bus (s : State) (d : Delay) : (s.settle d).bus = s.bus := by unfold State.settle; split <;> rfl

@[simp] theorem State.settle_clockOnFlag (s : State) (d : Delay) : (s.settle d).clockOnFlag = s.clockOnFlag := by unfold State.settle; split <;> rfl

@[simp] theorem State.settle_watchdogFlag (s : State) (d : Delay) : (s.settle d).watchdogFlag = s.watchdogFlag := by unfold State.settle; split <;> rfl

@[simp] theorem State.settle_eovPending (s : State) (d : Delay) : (s.settle d).eovPending = s.eovPending := by unfold State.settle; split <;> rfl

@[simp] theorem State.settle_parityPending (s : State) (d : Delay) : (s.settle d).parityPending = s.parityPending := by unfold State.settle; split <;> rfl

@[simp] theorem State.settle_delay (s : State) (d : Delay) : (s.settle d).delay = s.delay := by unfold State.settle; split <;> rfl

@[simp] theorem State.settle_callLockout (s : State) (d : Delay) : (s.settle d).callLockout = s.callLockout := by unfold State.settle; split <;> rfl

@[simp] theorem State.settle_power (s : State) (d : Delay) : (s.settle d).power = s.power := by unfold State.settle; split <;> rfl

@[simp] theorem State.settle_mem (s : State) (d : Delay) : (s.settle d).mem = s.mem := by unfold State.settle; split <;> rfl

@[simp] theorem State.settle_lost (s : State) (d : Delay) : (s.settle d).lost = s.lost := by unfold State.settle; split <;> rfl

@[simp] theorem State.settle_cache (s : State) (d : Delay) : (s.settle d).cache = s.cache := by unfold State.settle; split <;> rfl

@[simp] theorem State.settle_pins (s : State) (d : Delay) : (s.settle d).pins = s.pins := by unfold State.settle; split <;> rfl

@[simp] theorem State.settle_parityLines (s : State) (d : Delay) : (s.settle d).parityLines = s.parityLines := by unfold State.settle; split <;> rfl

@[simp] theorem State.settle_schedule (s : State) (d : Delay) : (s.settle d).schedule = s.schedule := by unfold State.settle; split <;> rfl

@[simp] theorem State.settle_platform (s : State) (d : Delay) : (s.settle d).platform = s.platform := by unfold State.settle; split <;> rfl

@[simp] theorem State.settle_ioLog (s : State) (d : Delay) : (s.settle d).ioLog = s.ioLog := by unfold State.settle; split <;> rfl

/-! ## The fields of the status register that begin and settle keep -/

@[simp] theorem State.begin_sr_c (s : State) (k : Nat) : (s.begin k).sr.c = s.sr.c := by unfold State.begin; split <;> rfl

@[simp] theorem State.begin_sr_z (s : State) (k : Nat) : (s.begin k).sr.z = s.sr.z := by unfold State.begin; split <;> rfl

@[simp] theorem State.begin_sr_n (s : State) (k : Nat) : (s.begin k).sr.n = s.sr.n := by unfold State.begin; split <;> rfl

@[simp] theorem State.begin_sr_v (s : State) (k : Nat) : (s.begin k).sr.v = s.sr.v := by unfold State.begin; split <;> rfl

@[simp] theorem State.begin_sr_m (s : State) (k : Nat) : (s.begin k).sr.m = s.sr.m := by unfold State.begin; split <;> rfl

@[simp] theorem State.begin_sr_h (s : State) (k : Nat) : (s.begin k).sr.h = s.sr.h := by unfold State.begin; split <;> rfl

@[simp] theorem State.begin_sr_r6 (s : State) (k : Nat) : (s.begin k).sr.r6 = s.sr.r6 := by unfold State.begin; split <;> rfl

@[simp] theorem State.begin_sr_i (s : State) (k : Nat) : (s.begin k).sr.i = s.sr.i := by unfold State.begin; split <;> rfl

@[simp] theorem State.begin_sr_fte (s : State) (k : Nat) : (s.begin k).sr.fte = s.sr.fte := by unfold State.begin; split <;> rfl

@[simp] theorem State.begin_sr_frm (s : State) (k : Nat) : (s.begin k).sr.frm = s.sr.frm := by unfold State.begin; split <;> rfl

@[simp] theorem State.begin_sr_l (s : State) (k : Nat) : (s.begin k).sr.l = s.sr.l := by unfold State.begin; split <;> rfl

@[simp] theorem State.begin_sr_t (s : State) (k : Nat) : (s.begin k).sr.t = s.sr.t := by unfold State.begin; split <;> rfl

@[simp] theorem State.begin_sr_s (s : State) (k : Nat) : (s.begin k).sr.s = s.sr.s := by unfold State.begin; split <;> rfl

@[simp] theorem State.begin_sr_fl (s : State) (k : Nat) : (s.begin k).sr.fl = s.sr.fl := by unfold State.begin; split <;> rfl

@[simp] theorem State.begin_sr_fp (s : State) (k : Nat) : (s.begin k).sr.fp = s.sr.fp := by unfold State.begin; split <;> rfl

@[simp] theorem State.begin_sr_p (s : State) (k : Nat) : (s.begin k).sr.p = true := by unfold State.begin; split <;> rfl

@[simp] theorem State.settle_sr_c (s : State) (d : Delay) : (s.settle d).sr.c = s.sr.c := by unfold State.settle; split <;> rfl

@[simp] theorem State.settle_sr_z (s : State) (d : Delay) : (s.settle d).sr.z = s.sr.z := by unfold State.settle; split <;> rfl

@[simp] theorem State.settle_sr_n (s : State) (d : Delay) : (s.settle d).sr.n = s.sr.n := by unfold State.settle; split <;> rfl

@[simp] theorem State.settle_sr_v (s : State) (d : Delay) : (s.settle d).sr.v = s.sr.v := by unfold State.settle; split <;> rfl

@[simp] theorem State.settle_sr_m (s : State) (d : Delay) : (s.settle d).sr.m = s.sr.m := by unfold State.settle; split <;> rfl

@[simp] theorem State.settle_sr_h (s : State) (d : Delay) : (s.settle d).sr.h = s.sr.h := by unfold State.settle; split <;> rfl

@[simp] theorem State.settle_sr_r6 (s : State) (d : Delay) : (s.settle d).sr.r6 = s.sr.r6 := by unfold State.settle; split <;> rfl

@[simp] theorem State.settle_sr_i (s : State) (d : Delay) : (s.settle d).sr.i = s.sr.i := by unfold State.settle; split <;> rfl

@[simp] theorem State.settle_sr_fte (s : State) (d : Delay) : (s.settle d).sr.fte = s.sr.fte := by unfold State.settle; split <;> rfl

@[simp] theorem State.settle_sr_frm (s : State) (d : Delay) : (s.settle d).sr.frm = s.sr.frm := by unfold State.settle; split <;> rfl

@[simp] theorem State.settle_sr_l (s : State) (d : Delay) : (s.settle d).sr.l = s.sr.l := by unfold State.settle; split <;> rfl

@[simp] theorem State.settle_sr_t (s : State) (d : Delay) : (s.settle d).sr.t = s.sr.t := by unfold State.settle; split <;> rfl

@[simp] theorem State.settle_sr_p (s : State) (d : Delay) : (s.settle d).sr.p = s.sr.p := by unfold State.settle; split <;> rfl

@[simp] theorem State.settle_sr_s (s : State) (d : Delay) : (s.settle d).sr.s = s.sr.s := by unfold State.settle; split <;> rfl

@[simp] theorem State.settle_sr_fl (s : State) (d : Delay) : (s.settle d).sr.fl = s.sr.fl := by unfold State.settle; split <;> rfl

@[simp] theorem State.settle_sr_fp (s : State) (d : Delay) : (s.settle d).sr.fp = s.sr.fp := by unfold State.settle; split <;> rfl

end Sys2Proof.Machine
end

