-- ==== Sys2Proof/Laws/Memory.lean ====
section
/-! SUPPORT. Laws/Memory.lean: reading after writing, and the canonical form of memory. -/

namespace Sys2Proof.Machine

/-! ## The list of cells -/

variable {blank : Nat → Byte}

theorem Memory.risesFrom_mono {lo lo' : Nat} {m : List Host.Cell} (h : Memory.risesFrom blank lo m = true) (hl : lo' ≤ lo) :
    Memory.risesFrom blank lo' m = true := by
  cases m with
  | nil => rfl
  | cons x t =>
    simp only [Memory.risesFrom, Bool.and_eq_true, decide_eq_true_eq] at h ⊢
    exact ⟨⟨by omega, h.1.2⟩, h.2⟩

theorem Memory.get_below {lo a : Nat} {m : List Host.Cell} (h : Memory.risesFrom blank lo m = true) (ha : a < lo) :
    Memory.get blank m a = blank a := by
  induction m generalizing lo with
  | nil => rfl
  | cons x t ih =>
    simp only [Memory.risesFrom, Bool.and_eq_true, decide_eq_true_eq] at h
    rw [Memory.get, if_neg (by omega)]
    exact ih h.2 (by omega)

theorem Memory.risesFrom_set {lo a : Nat} {m : List Host.Cell} (v : Byte) (h : Memory.risesFrom blank lo m = true) (ha : lo ≤ a) :
    Memory.risesFrom blank lo (Memory.set blank m a v) = true := by
  induction m generalizing lo with
  | nil =>
    unfold Memory.set; split
    · rfl
    · simp_all [Memory.risesFrom]
  | cons x t ih =>
    simp only [Memory.risesFrom, Bool.and_eq_true, decide_eq_true_eq] at h
    unfold Memory.set
    split
    · split
      · simp_all [Memory.risesFrom]
      · simp_all only [Memory.risesFrom, Bool.and_eq_true, decide_eq_true_eq, bne_iff_ne, ne_eq, not_false_eq_true, and_true, true_and]
        omega
    · split
      · split
        · exact Memory.risesFrom_mono h.2 (by omega)
        · simp_all [Memory.risesFrom]
      · simp only [Memory.risesFrom, Bool.and_eq_true, decide_eq_true_eq]
        exact ⟨h.1, ih h.2 (by omega)⟩

/-- A write keeps the canonical form. -/
theorem Memory.wf_set {m : List Host.Cell} (a : Nat) (v : Byte) (h : Memory.wf blank m = true) : Memory.wf blank (Memory.set blank m a v) = true :=
  Memory.risesFrom_set v h (Nat.zero_le a)

theorem Memory.risesFrom_filter {blank' : Nat → Byte} {lo : Nat} {m : List Host.Cell} (p : Host.Cell → Bool)
    (hb : ∀ x, p x = true → blank' x.1 = blank x.1) (h : Memory.risesFrom blank lo m = true) :
    Memory.risesFrom blank' lo (m.filter p) = true := by
  induction m generalizing lo with
  | nil => rfl
  | cons x t ih =>
    simp only [Memory.risesFrom, Bool.and_eq_true, decide_eq_true_eq] at h
    rw [List.filter_cons]
    split
    · rename_i hx
      simp only [Memory.risesFrom, Bool.and_eq_true, decide_eq_true_eq]
      rw [show blank' x.1 = blank x.1 from hb x hx]
      exact ⟨h.1, ih h.2⟩
    · exact Memory.risesFrom_mono (ih h.2) (by omega)

/-- Losing cells keeps the canonical form, whatever the lost cells read as. -/
theorem Memory.wf_filter {blank' : Nat → Byte} {m : List Host.Cell} (p : Host.Cell → Bool) (hb : ∀ x, p x = true → blank' x.1 = blank x.1)
    (h : Memory.wf blank m = true) : Memory.wf blank' (m.filter p) = true :=
  Memory.risesFrom_filter p hb h

/-- A cell reads as the byte written to it. -/
theorem Memory.get_set_same {m : List Host.Cell} (a : Nat) (v : Byte) (h : Memory.wf blank m = true) :
    Memory.get blank (Memory.set blank m a v) a = v := by
  unfold Memory.wf at h
  generalize 0 = lo at h
  induction m generalizing lo with
  | nil =>
    unfold Memory.set; split
    · simp_all [Memory.get]
    · simp [Memory.get]
  | cons x t ih =>
    simp only [Memory.risesFrom, Bool.and_eq_true, decide_eq_true_eq] at h
    unfold Memory.set
    split
    · rename_i hlt
      split
      · rename_i hv
        rw [Memory.get, if_neg (by omega), hv]
        exact Memory.get_below h.2 (by omega)
      · simp [Memory.get]
    · split
      · rename_i heq
        split
        · rename_i hv
          rw [hv]; exact Memory.get_below h.2 (by omega)
        · simp [Memory.get]
      · rw [Memory.get, if_neg (by omega)]
        exact ih _ h.2

/-- Every other cell reads as before. -/
theorem Memory.get_set_ne (m : List Host.Cell) {a b : Nat} (v : Byte) (h : b ≠ a) :
    Memory.get blank (Memory.set blank m a v) b = Memory.get blank m b := by
  induction m with
  | nil =>
    unfold Memory.set; split
    · rfl
    · simp [Memory.get, Ne.symm h]
  | cons x t ih =>
    unfold Memory.set
    split
    · split
      · rfl
      · rw [Memory.get, if_neg (by omega)]
    · split
      · rename_i heq
        split
        · rw [Memory.get, if_neg (by omega)]
        · rw [Memory.get, if_neg (by omega), Memory.get, if_neg (by omega)]
      · rw [Memory.get, Memory.get, ih]

/-- The cells of a memory that has been written are the old ones and the written one. -/
theorem Memory.mem_set {m : List Host.Cell} {a : Nat} {v : Byte} {x : Host.Cell} (h : x ∈ Memory.set blank m a v) : x ∈ m ∨ x.1 = a := by
  induction m with
  | nil =>
    unfold Memory.set at h; split at h <;> simp_all
  | cons y t ih =>
    unfold Memory.set at h
    split at h
    · split at h
      · exact .inl h
      · rcases List.mem_cons.mp h with rfl | h
        · exact .inr rfl
        · exact .inl h
    · split at h
      · split at h
        · exact .inl (List.mem_cons_of_mem _ h)
        · rcases List.mem_cons.mp h with rfl | h
          · exact .inr rfl
          · exact .inl (List.mem_cons_of_mem _ h)
      · rcases List.mem_cons.mp h with rfl | h
        · exact .inl List.mem_cons_self
        · rcases ih h with h | h
          · exact .inl (List.mem_cons_of_mem _ h)
          · exact .inr h

/-! ## Bytes by address -/

/-- The cell depends on no address bit that does not leave the chip (20 R98). -/
theorem State.cellOf_alias {s : State} {a b : Word} (ha : areaOf a = areaOf b) (ho : s.busOffset a = s.busOffset b) : s.cellOf a = s.cellOf b := by
  unfold State.cellOf; rw [ha, ho]

/-- What decides where an address leads: the board and the MCR. -/
theorem State.cellOf_congr {s t : State} (hp : t.platform = s.platform) (hm : t.bus.mcr = s.bus.mcr) (a : Word) : t.cellOf a = s.cellOf a := by
  unfold State.cellOf State.busOffset State.areaMap; rw [hp, hm]

theorem State.rangeOf_congr {s t : State} (hp : t.platform = s.platform) (hm : t.bus.mcr = s.bus.mcr) (a : Word) : t.rangeOf a = s.rangeOf a := by
  unfold State.rangeOf; rw [State.cellOf_congr hp hm]; unfold State.areaMap; rw [hp]

theorem State.byteAt_congr {s t : State} (hp : t.platform = s.platform) (hm : t.bus.mcr = s.bus.mcr) (he : t.mem = s.mem)
    (hl : t.lost = s.lost) (a : Word) : t.byteAt a = s.byteAt a := by
  unfold State.byteAt; rw [State.rangeOf_congr hp hm, State.cellOf_congr hp hm, he, hl]

theorem State.writable_congr {s t : State} (hp : t.platform = s.platform) (hm : t.bus.mcr = s.bus.mcr) (a : Word) :
    t.writable a = s.writable a := by unfold State.writable; rw [State.rangeOf_congr hp hm]

/-- What a byte store changes: memory alone. -/
theorem State.writeByte_frame (s : State) (a : Word) (b : Byte) : s.writeByte a b = { s with mem := (s.writeByte a b).mem } := by
  unfold State.writeByte; split <;> rfl

/-- What a data store changes: memory alone. -/
theorem State.writeBytes_frame (s : State) (z : Size) (a v : Word) : s.writeBytes z a v = { s with mem := (s.writeBytes z a v).mem } := by
  unfold State.writeBytes
  generalize List.range z.bytes = l
  induction l generalizing s with
  | nil => rfl
  | cons k l ih => rw [List.foldl_cons, ih, State.writeByte_frame]

theorem State.store_frame (s : State) (z : Size) (a v : Word) : s.store z a v = { s with mem := (s.store z a v).mem } :=
  State.writeBytes_frame s z (z.align a) v

theorem State.sdramConfig_frame (s : State) (a : Word) :
    s.sdramConfig a = { s with bus := { s.bus with sdcr := (s.sdramConfig a).bus.sdcr, sdramMode := (s.sdramConfig a).bus.sdramMode } } := by
  unfold State.sdramConfig; split <;> rfl

/-- The byte at the address of a byte store. -/
theorem State.byteAt_writeByte_same {s : State} {a : Word} {b : Byte} (h : s.memWf = true) (hw : s.writable a = true) :
    (s.writeByte a b).byteAt a = some b := by
  have hc : (s.writeByte a b).byteAt a = (s.rangeOf a).map fun _ =>
      Memory.get s.lost.blank (Memory.set s.lost.blank s.mem (s.cellOf a) b) (s.cellOf a) := by
    unfold State.writeByte; rw [if_pos hw]; rfl
  rw [hc, Memory.get_set_same _ _ h]
  unfold State.writable at hw
  cases hr : s.rangeOf a <;> simp_all

/-- The bytes at other cells. -/
theorem State.byteAt_writeByte_ne {s : State} {a c : Word} {b : Byte} (h : s.cellOf c ≠ s.cellOf a) :
    (s.writeByte a b).byteAt c = s.byteAt c := by
  unfold State.writeByte; split
  · show ((s.rangeOf c).map fun _ => Memory.get s.lost.blank (Memory.set s.lost.blank s.mem (s.cellOf a) b) (s.cellOf c)) = _
    rw [Memory.get_set_ne _ _ h]; rfl
  · rfl

theorem State.byteAt_writeByte_rom {s : State} {a c : Word} {b : Byte} (h : s.writable a = false) :
    (s.writeByte a b).byteAt c = s.byteAt c := by
  unfold State.writeByte; rw [if_neg (by simp [h])]

/-- Every memory operation keeps the canonical form: a byte store. -/
theorem State.writeByte_wf {s : State} (a : Word) (b : Byte) (h : s.memWf = true) : (s.writeByte a b).memWf = true := by
  unfold State.writeByte; split
  · exact Memory.wf_set (blank := s.lost.blank) _ _ h
  · exact h

theorem State.writeBytes_wf {s : State} (z : Size) (a v : Word) (h : s.memWf = true) : (s.writeBytes z a v).memWf = true := by
  unfold State.writeBytes
  generalize List.range z.bytes = l
  induction l generalizing s with
  | nil => exact h
  | cons k l ih => rw [List.foldl_cons]; exact ih (State.writeByte_wf _ _ h)

/-- A data store keeps the canonical form. -/
theorem State.store_wf {s : State} (z : Size) (a v : Word) (h : s.memWf = true) : (s.store z a v).memWf = true := by
  exact State.writeBytes_wf _ _ _ h

/-- A memory write keeps it. -/
theorem State.memWrite_wf {s t : State} {z : Size} {a v : Word} (h : s.memWf = true) (ht : s.memWrite z a v = .next t) :
    t.memWf = true := by
  unfold State.memWrite at ht
  split at ht
  · cases ht
  · split at ht <;> cases ht
    · rw [State.sdramConfig_frame]; exact h
    · exact State.store_wf z a v h

/-- What the cells that a reset does not lose read as stays. -/
theorem Losses.blank_afterReset (l : Losses) (mcr : Word) (c : ResetCause) (cell : Nat)
    (h : (c.losesMemory && lostCell mcr cell) = false) : (l.afterReset mcr c).blank cell = l.blank cell := by
  unfold Losses.afterReset
  split
  · rename_i hc
    simp only [hc, Bool.true_and, lostCell, Bool.or_eq_false_iff, Bool.and_eq_false_iff] at h
    unfold Losses.blank
    rw [h.1]
    rcases h.2 with hd | hm
    · simp [hd]
    · simp [hm]
  · rfl

/-- A reset keeps it. -/
theorem State.resetException_wf {s : State} (c : ResetCause) (h : s.memWf = true) : (s.resetException c).memWf = true := by
  show Memory.wf (s.lost.afterReset s.bus.mcr c).blank (memAfterReset s.mem s.bus.mcr c) = true
  unfold memAfterReset
  split
  · refine Memory.wf_filter _ (fun x hx => Losses.blank_afterReset _ _ _ _ ?_) h
    simp only [Bool.not_eq_true'] at hx
    rw [hx, Bool.and_false]
  · rename_i hc
    have : s.lost.afterReset s.bus.mcr c = s.lost := by unfold Losses.afterReset; rw [if_neg hc]
    rw [this]; exact h

/-- The placing of an instruction keeps it. -/
theorem State.placeBytes_wf {s : State} (a : Word) (bs : List Byte) (h : s.memWf = true) : (s.placeBytes a bs).memWf = true := by
  unfold State.placeBytes
  generalize bs.zip (List.range bs.length) = l
  show Memory.wf s.lost.blank (l.foldl (fun m x => Memory.set s.lost.blank m (s.cellOf (a + BitVec.ofNat 32 x.2)) x.1) s.mem) = true
  replace h : Memory.wf s.lost.blank s.mem = true := h
  generalize s.mem = m at h
  induction l generalizing m with
  | nil => exact h
  | cons x l ih => rw [List.foldl_cons]; exact ih _ (Memory.wf_set _ _ h)

/-- The memory after reset lists nothing, canonically. -/
theorem State.reset_mem_wf : State.reset.memWf = true := rfl

end Sys2Proof.Machine
end

