-- ==== Sys2Proof/Laws/Results.lean ====
section
/-! SUPPORT. Laws/Results.lean: what the frame of every instruction and the shapes of Machine/Alu.lean answer, in the words of Safety.lean. -/

namespace Sys2Proof.Machine

/-! ## What an instruction finds -/

theorem State.begin_pc (s : State) (len : Nat) : (s.begin len).pc = s.nextPc len := by
  unfold State.begin State.nextPc; split <;> simp_all

theorem State.begin_sr (s : State) (len : Nat) : (s.begin len).sr = s.srDuring len := by
  unfold State.begin State.srDuring; split <;> simp_all

@[simp] theorem State.begin_readLocal (s : State) (len k : Nat) : (s.begin len).readLocal k = s.readLocal k := by
  unfold State.begin; split <;> rfl

@[simp] theorem State.begin_readGlobal (s : State) (len : Nat) (c : BitVec 4) : (s.begin len).readGlobal c = s.readGlobal c := by
  unfold State.begin; split <;> rfl

@[simp] theorem State.begin_readSlot (s : State) (len : Nat) (x : Slot) : (s.begin len).readSlot x = s.slotDuring len x := by
  cases x <;> simp [State.readSlot, State.slotDuring, State.begin_pc, State.begin_sr]

@[simp] theorem State.begin_readReg (s : State) (len : Nat) (r : Reg) : (s.begin len).readReg r = s.operand len r := by
  simp [State.readReg, State.operand]

@[simp] theorem State.begin_flags (s : State) (len : Nat) : (s.begin len).flags = s.flags := by
  unfold State.begin; split <;> rfl

theorem carryWord_eq (s : State) : carryWord s = if s.sr.c then 1 else 0 := by
  unfold carryWord; cases s.sr.c <;> rfl

@[simp] theorem State.begin_readAddend (s : State) (len : Nat) (r : Reg) : (s.begin len).readAddend r = s.addend len r := by
  simp [State.readAddend, State.addend, carryWord_eq]

@[simp] theorem State.begin_readStored (s : State) (len : Nat) (r : Reg) : (s.begin len).readStored r = s.stored len r := by
  simp [State.readStored, State.stored]

@[simp] theorem State.begin_fresh (s : State) (len : Nat) : (s.begin len).fresh = s.draw 0 := by
  simp [State.fresh, State.draw]

@[simp] theorem State.begin_freshAt (s : State) (len k : Nat) : (s.begin len).freshAt k = s.draw k := by
  simp [State.freshAt, State.draw]

@[simp] theorem State.begin_freeV (s : State) (len : Nat) : (s.begin len).freeV = s.anyV := by simp [State.freeV, State.anyV]

@[simp] theorem State.begin_freeC (s : State) (len : Nat) : (s.begin len).freeC = s.anyC := by simp [State.freeC, State.anyC]

@[simp] theorem State.begin_freeZ (s : State) (len : Nat) : (s.begin len).freeZ = s.anyZ := by simp [State.freeZ, State.anyZ]

@[simp] theorem State.begin_freeN (s : State) (len : Nat) : (s.begin len).freeN = s.anyN := by simp [State.freeN, State.anyN]

/-! ## What it leaves -/

theorem State.underway_eq (s : State) (len k : Nat) (f : Flags) :
    s.underway len k f = ((s.begin len).retire.drawn k).setFlags f := by
  cases hd : s.delay <;>
    simp [State.underway, State.begin, State.nextPc, State.srDuring, hd, State.retire, State.drawn, State.setFlags, StatusReg.setFlags,
      State.flags, StatusReg.flags]

@[simp] theorem StatusReg.setFlags_self (r : StatusReg) : r.setFlags r.flags = r := rfl

theorem State.retire_eq (s : State) (len : Nat) : (s.begin len).retire = s.underway len 0 s.flags := by
  cases hd : s.delay <;>
    simp [State.underway, State.begin, State.nextPc, State.srDuring, hd, State.retire, State.drawn, State.setFlags, StatusReg.setFlags,
      State.flags, StatusReg.flags]

theorem State.drawn_eq (s : State) (len k : Nat) : (s.begin len).retire.drawn k = s.underway len k s.flags := by
  cases hd : s.delay <;>
    simp [State.underway, State.begin, State.nextPc, State.srDuring, hd, State.retire, State.drawn, State.setFlags, StatusReg.setFlags,
      State.flags, StatusReg.flags]

theorem frameRefusal_runs {s : State} {len : Nat} {g : Bool} (h : s.runs len g) : s.frameRefusal len g false = none := by
  obtain ⟨h1, h2⟩ := h
  unfold State.frameRefusal
  rw [if_neg (by simp [h1])]
  split
  · rfl
  · rcases h2 with h2 | h2
    · contradiction
    · rw [if_neg (by simp), if_neg (by omega)]

theorem frameRefusal_branches {s : State} {len : Nat} {g b : Bool} (h : s.branches g) : s.frameRefusal len g b = none := by
  obtain ⟨h1, h2⟩ := h
  unfold State.frameRefusal
  rw [if_neg (by simp [h1]), h2]

theorem frameRefusal_slot {s : State} {len : Nat} {g : Bool} (h : (s.sr.h && g) = false) (hd : s.delay ≠ .none) :
    s.frameRefusal len g true = some .branchInDelaySlot := by
  unfold State.frameRefusal
  rw [if_neg (by simp [h])]
  split
  · contradiction
  · rfl

/-- An instruction that is not refused at once does its body. -/
theorem instruction_eq {len : Nat} {g b : Bool} {s : State} {body : State → State → Out (State × Bool)}
    (h : s.frameRefusal len g b = none) :
    instruction len g b s body = finish s.delay (body (s.begin len) (s.underway len 0 s.flags)) := by
  unfold instruction; rw [h]; simp only [State.retire_eq]

/-- An instruction that is refused at once. -/
theorem instruction_refused {len : Nat} {g b : Bool} {s : State} {body : State → State → Out (State × Bool)} {r : Refusal}
    (h : s.frameRefusal len g b = some r) : instruction len g b s body = .refused r := by
  unfold instruction; rw [h]

@[simp] theorem finish_ok (d : Delay) (s : State) : finish d (.next (s, false)) = .next (s.settle d) := rfl

@[simp] theorem finish_done (d : Delay) (s : State) : finish d (done s) = .next (s.settle d) := rfl

@[simp] theorem finish_refused (d : Delay) (r : Refusal) : finish d (.refused r) = .refused r := rfl

@[simp] theorem finish_error (s t : State) : finish s.delay (.next (t, true)) = s.raises t := by
  rfl

@[simp] theorem andThen_next {α β : Type} (a : α) (f : α → Out β) : andThen (.next a) f = f a := rfl

@[simp] theorem andThen_refused {α β : Type} (r : Refusal) (f : α → Out β) : andThen (.refused r) f = .refused r := rfl

@[simp] theorem andThen_done {β : Type} (s : State) (f : State × Bool → Out β) : andThen (done s) f = f (s, false) := rfl

/-! ## Settling commutes with writing registers -/

@[simp] theorem State.settle_writeLocal (s : State) (d : Delay) (k : Nat) (v : Word) :
    (s.writeLocal k v).settle d = (s.settle d).writeLocal k v := by
  unfold State.settle; split <;> rfl

@[simp] theorem State.settle_writeGlobal (s : State) (d : Delay) (c : BitVec 4) (v : Word) :
    (s.writeGlobal c v).settle d = (s.settle d).writeGlobal c v := by
  unfold State.settle; split <;> rfl

theorem State.settle_put (s : State) (d : Delay) (r : Reg) (v : Word) : (s.put r v).settle d = (s.settle d).put r v := by
  cases r <;> simp [State.put]

theorem State.writeLocal_setFlags (s : State) (k : Nat) (v : Word) (f : Flags) :
    (s.writeLocal k v).setFlags f = (s.setFlags f).writeLocal k v := rfl

theorem State.writeGlobal_setFlags (s : State) (c : BitVec 4) (v : Word) (f : Flags) :
    (s.writeGlobal c v).setFlags f = (s.setFlags f).writeGlobal c v := rfl

/-! ## The slots of registers -/

theorem Reg.notPcSr_eq (r : Reg) : r.notPcSr = (!(r == .g 0) && !(r == .g 1)) := rfl

theorem regSlot_pc {r : Reg} (h : r.isPc = true) : r = .g 0 := by simpa [Reg.isPc] using h

theorem regSlot_sr {r : Reg} (h : r.isSr = true) : r = .g 1 := by simpa [Reg.isSr] using h

theorem regSlot_general {r : Reg} (h : r.notPcSr = true) :
    regSlot r = match r with | .l c => .loc c.toNat | .g c => .glob c := by
  cases r with
  | l c => rfl
  | g c =>
    simp only [Reg.notPcSr, Reg.isPc, Reg.isSr, Bool.and_eq_true, Bool.not_eq_true', beq_eq_false_iff_ne, ne_eq, Reg.g.injEq] at h
    simp_all [regSlot]

/-- A result reaching a register that is neither PC nor SR. -/
theorem writeResult_general {s : State} {rd : Reg} {v : Word} {f : Flags} (h : rd.notPcSr = true) :
    s.writeResult rd v f = done ((s.setFlags f).put rd v) := by
  unfold State.writeResult; rw [regSlot_general h]; cases rd <;> rfl

@[simp] theorem writeResult_sr (s : State) (v : Word) (f : Flags) : s.writeResult (.g 1#4) v f = .next (s.writeSr v) := rfl

@[simp] theorem writeResult_pc (s : State) (v : Word) (f : Flags) : s.writeResult (.g 0#4) v f = .refused .pcDestination := rfl

theorem underway_setFlags (s : State) (len k : Nat) (f g : Flags) :
    (s.underway len k f).setFlags g = s.underway len k g := by
  simp only [State.underway_eq]; rfl

theorem underway_drawn (s : State) (len k j : Nat) (f : Flags) : (s.underway len k f).drawn j = s.underway len (k + j) f := by
  simp only [State.underway, State.drawn, Nat.add_assoc]

theorem underway_writeSr (s : State) (len k : Nat) (v : Word) :
    (s.underway len k s.flags).writeSr v = (s.afterSr len k v, s.lockForbidden v) := by
  simp only [State.writeSr, State.afterSr, State.lockForbidden, Prod.mk.injEq, true_and]
  unfold State.underway State.srDuring; split <;> rfl

/-- The flags that a write to the SR puts aside do not matter. -/
theorem writeSr_flags (s : State) (len k : Nat) (f : Flags) (v : Word) :
    (s.underway len k f).writeSr v = (s.afterSr len k v, s.lockForbidden v) := by
  rw [← underway_writeSr]; rfl

/-! ## The shapes -/

/-- A result to Rd, with a Range Error where the instruction raises one. -/
theorem compute_answersResult {len k : Nat} {g : Bool} {rd : Reg} {s : State} {f : State → AluResult} {v : Word} {fl : Flags}
    (h : s.runs len g) (he : (f (s.begin len)).error = false) (hv : (f (s.begin len)).value = v) (hf : (f (s.begin len)).flags = fl) :
    answersResult (compute len g rd k s f) s len k rd v fl := by
  subst hv hf
  unfold compute; rw [instruction_eq (frameRefusal_runs h), underway_drawn, Nat.zero_add]
  refine ⟨fun hr => ?_, fun hr hl => ?_, fun hr hl => ?_, fun hr => ?_⟩
  · simp [writeResult_general hr, he, underway_setFlags, State.after, State.settle_put]
  · cases regSlot_sr hr; simp [writeSr_flags, hl, he]
  · cases regSlot_sr hr; simp [writeSr_flags, hl]
  · cases regSlot_pc hr; simp

/-- The same with an error that the operands decide. -/
theorem compute_answersTrapping {len : Nat} {g : Bool} {rd : Reg} {s : State} {f : State → AluResult} {v : Word} {fl : Flags} {e : Bool}
    (h : s.runs len g) (hv : (f (s.begin len)).value = v) (hf : (f (s.begin len)).flags = fl) (hr : (f (s.begin len)).error = e) :
    answersTrapping (compute len g rd 0 s f) s len rd v fl e := by
  subst hv hf hr
  refine ⟨fun he => compute_answersResult h he rfl rfl, fun he hr => ?_, fun he hr => ?_, fun he hr => ?_⟩ <;>
    (unfold compute; rw [instruction_eq (frameRefusal_runs h), underway_drawn, Nat.zero_add])
  · simp [writeResult_general hr, he, underway_setFlags]
  · cases regSlot_sr hr; simp [writeSr_flags, he]
  · cases regSlot_pc hr; simp

/-- A result to Rd where the PC makes a branch. -/
theorem computeOrBranch_answersBranch {len k : Nat} {g : Bool} {rd : Reg} {s : State} {f : State → AluResult} {v : Word} {fl : Flags}
    (h : s.runs len g) (hv : (f (s.begin len)).value = v) (hf : (f (s.begin len)).flags = fl) :
    answersBranch (computeOrBranch len g rd k s f) s len k rd v fl := by
  subst hv hf
  refine ⟨fun hp => ?_, fun hp hd => ?_, fun hp hd => ?_⟩
  · unfold computeOrBranch; rw [hp, instruction_eq (frameRefusal_runs h), underway_drawn, Nat.zero_add]
    refine ⟨fun hr => ?_, fun hr hl => ?_, fun hr hl => ?_, fun hr => ?_⟩
    · simp [State.writeOrBranch, hp, writeResult_general hr, underway_setFlags, State.after, State.settle_put]
    · cases regSlot_sr hr; simp [State.writeOrBranch, writeSr_flags, hl, Reg.isPc]
    · cases regSlot_sr hr; simp [State.writeOrBranch, writeSr_flags, hl, Reg.isPc]
    · rw [hp] at hr; cases hr
  · unfold computeOrBranch; rw [hp, instruction_eq (frameRefusal_branches ⟨h.1, hd⟩), underway_drawn, Nat.zero_add]
    simp [State.writeOrBranch, hp, underway_setFlags, hd, State.settle]
    rfl
  · unfold computeOrBranch; rw [hp, instruction_refused (frameRefusal_slot h.1 hd)]

/-- Only flags. -/
theorem computeFlags_eq {len : Nat} {g : Bool} {s : State} {f : State → Flags} {fl : Flags} (h : s.runs len g)
    (hf : f (s.begin len) = fl) : computeFlags len g s f = .next (s.after len 0 fl) := by
  subst hf
  unfold computeFlags; rw [instruction_eq (frameRefusal_runs h)]; simp [underway_setFlags, State.after]

/-- A check. -/
theorem check_eq {g : Bool} {s : State} {f : State → Bool} (h : s.runs 1 g) :
    check g s f = if f (s.begin 1) then s.raises (s.underway 1 0 s.flags) else .next (s.after 1 0 s.flags) := by
  unfold check; rw [instruction_eq (frameRefusal_runs h)]; split <;> simp_all [State.after]

/-- A slot write that is no PC is the claim's. -/
theorem writeSlot_eq (s : State) (v : Word) (x : Slot) : s.writeSlot v x = s.putSlot v x := by cases x <;> rfl

/-- The follower of a register is never the PC. -/
theorem followSlot_ne_pc {r : Reg} {x : Slot} (h : followSlot r = some x) : x ≠ .pc := by
  cases r with
  | l c => simp only [followSlot, Option.some.injEq] at h; subst h; simp
  | g c =>
    simp only [followSlot] at h
    split at h
    · cases h; simp
    · split at h
      · cases h
      · cases h; simp

/-- It is the SR only for the PC. -/
theorem followSlot_sr {r : Reg} (h : followSlot r = some .sr) : r.isPc = true := by
  cases r with
  | l c => simp [followSlot] at h
  | g c =>
    simp only [followSlot] at h
    split at h
    · simp_all [Reg.isPc]
    · split at h <;> cases h

theorem State.settle_putSlot (s : State) (d : Delay) (v : Word) {x : Slot} (h : x ≠ .sr) :
    (s.putSlot v x).settle d = (s.settle d).putSlot v x := by
  cases x with
  | sr => contradiction
  | loc k => simp [State.putSlot]
  | glob c => simp [State.putSlot]
  | pc => unfold State.settle; split <;> rfl

/-- A double-word result to Rd//Rdf. -/
theorem writePair_answers {s : State} {k : Nat} {rd : Reg} {hi lo : Word} {f : Flags} :
    answersPair (finish s.delay ((s.underway 1 k s.flags).writePair rd hi lo f)) s k rd hi lo f := by
  unfold answersPair State.writePair withFollower
  cases hx : followSlot rd with
  | none => simp
  | some rdf =>
    refine ⟨fun hr => ?_, fun hr hl => ?_, fun hr hl => ?_, fun hr => ?_⟩
    · have hs : rdf ≠ .sr := fun hc => by
        have := followSlot_sr (hc ▸ hx)
        simp [Reg.notPcSr, this] at hr
      simp [writeResult_general hr, underway_setFlags, State.after, State.settle_putSlot _ _ _ hs, State.settle_put, writeSlot_eq]
    · cases regSlot_sr hr
      cases hx
      simp [writeSr_flags, hl, writeSlot_eq, State.putSlot]
    · cases regSlot_sr hr
      simp [writeSr_flags, hl, writeSlot_eq]
    · cases regSlot_pc hr; simp

/-- A double-word result of an instruction without error. -/
theorem computePair_answersPair {k : Nat} {g : Bool} {rd : Reg} {s : State} {f : State → Slot → AluPair} {hi lo : Word} {fl : Flags}
    (h : s.runs 1 g) (hf : ∀ rdf, followSlot rd = some rdf → f (s.begin 1) rdf = { hi := hi, lo := lo, flags := fl }) :
    answersPair (computePair g rd k s f) s k rd hi lo fl := by
  unfold computePair; rw [instruction_eq (frameRefusal_runs h)]
  have hw := writePair_answers (s := s) (k := k) (rd := rd) (hi := hi) (lo := lo) (f := fl)
  cases hx : followSlot rd with
  | none => simp [answersPair, withFollower, hx]
  | some rdf =>
    simp only [withFollower, hx, hf rdf hx, underway_drawn, Nat.zero_add, Bool.or_false]
    have hid : ∀ x : Out (State × Bool), (andThen x fun (t, error) => .next (t, error)) = x := by
      intro x; cases x <;> rfl
    rw [hid]; exact hw

theorem afterSr_underway (s : State) (len k : Nat) (v : Word) (f : Flags) :
    ((s.underway len k f).writeSr v).1 = s.afterSr len k v := by rw [writeSr_flags]

/-- A shift of the pair Ld//Ldf. -/
theorem shiftPair_answers {ld : BitVec 4} {j : Nat} {s : State} {value : BitVec 64 → State → BitVec 64} {flags : BitVec 64 → State → Flags}
    {v : BitVec 64} {fl : Flags} (h : s.runs 1 false) (hv : value (s.localPair ld) (s.begin 1) = v)
    (hf : flags (s.localPair ld) (s.begin 1) = fl) : answersLocalPair (shiftPair ld j s value flags) s j ld v fl := by
  subst hv hf
  unfold answersLocalPair shiftPair
  rw [instruction_eq (frameRefusal_runs h)]
  simp only [underway_drawn, Nat.zero_add, finish_done, State.readLocalPair, State.begin_readLocal, State.writeLocalPair,
    State.writeLocal_setFlags, underway_setFlags, State.settle_writeLocal, State.after, State.localPair]

/-- Any value in Rd (93 U33). -/
theorem anySingle_eq {rd rs : Reg} {s : State} {f : State → Flags} (h : s.runs 1 (rd.isGlobal || rs.isGlobal)) :
    answersResult (anySingle rd rs s f) s 1 2 rd (s.draw 1) (f (s.begin 1)) := by
  unfold anySingle eitherGlobal; rw [instruction_eq (frameRefusal_runs h), underway_drawn, Nat.zero_add]
  refine ⟨fun hr => ?_, fun hr hl => ?_, fun hr hl => ?_, fun hr => ?_⟩
  · simp [writeResult_general hr, underway_setFlags, State.after, State.settle_put]
  · cases regSlot_sr hr; simp [writeSr_flags, hl]
  · cases regSlot_sr hr; simp [writeSr_flags, hl]
  · cases regSlot_pc hr; simp

/-- Any value in Rd//Rdf (93 U33). -/
theorem anyPair_answers {rd rs : Reg} {s : State} {f : State → Flags} (h : s.runs 1 (rd.isGlobal || rs.isGlobal)) :
    answersPair (anyPair rd rs s f) s 3 rd (s.draw 1) (s.draw 2) (f (s.begin 1)) := by
  unfold anyPair eitherGlobal
  rw [instruction_eq (frameRefusal_runs h), underway_drawn, Nat.zero_add, State.begin_freshAt, State.begin_freshAt]
  exact writePair_answers

/-! ## Divisions (42 R267, R268) -/

@[simp] theorem division_overlaps (fails : Bool) (rem quo : Word) (r : State) :
    division true fails rem quo r = { divisionAny r with error := fails } := rfl

@[simp] theorem division_fails (rem quo : Word) (r : State) : division false true rem quo r = divisionTrap r := rfl

@[simp] theorem division_completes (rem quo : Word) (r : State) : division false false rem quo r = divisionResult rem quo r := rfl

end Sys2Proof.Machine
end

