-- ==== Sys2Proof/Laws/Ops.lean ====
section
/-! SUPPORT. Laws/Ops.lean: for each shared operation, what it can do. -/

namespace Sys2Proof.Machine

/-! ## Registers -/

/-- A slot that a register or its follower can name. -/
def Slot.named : Slot → Bool
  | .loc k => decide (k ≤ 16)
  | .glob c => decide (2 ≤ c.toNat)
  | _ => true

theorem regSlot_named (r : Reg) : (regSlot r).named = true := by
  cases r with
  | l c => have := c.isLt; simp [regSlot, Slot.named]; omega
  | g c => revert c; decide

theorem followSlot_named {r : Reg} {x : Slot} (h : followSlot r = some x) : x.named = true := by
  cases r with
  | l c => have := c.isLt; simp [followSlot] at h; subst h; simp [Slot.named]; omega
  | g c => revert x; revert c; decide

theorem readLocal_writeLocal_ne (s : State) {j k : Nat} (v : Word) (hj : j < 64) (hk : k < 64) (h : j ≠ k) :
    (s.writeLocal j v).readLocal k = s.readLocal k := by
  refine Vector.getElem_set_ne (s.localIndex j).isLt (s.localIndex k).isLt fun hc => h ?_
  have hc : (s.sr.fp.toNat + j) % 64 = (s.sr.fp.toNat + k) % 64 := hc
  omega

@[simp] theorem readLocal_writeLocal_same (s : State) (k : Nat) (v : Word) : (s.writeLocal k v).readLocal k = v :=
  Vector.getElem_set_self _

theorem globalIndex_inj {b c : BitVec 4} (hb : 2 ≤ b.toNat) (hc : 2 ≤ c.toNat) (h : globalIndex b = globalIndex c) : b = c := by
  revert b c; decide

theorem readGlobal_writeGlobal_ne (s : State) {b c : BitVec 4} (v : Word) (hb : 2 ≤ b.toNat) (hc : 2 ≤ c.toNat) (h : b ≠ c) :
    (s.writeGlobal b v).readGlobal c = s.readGlobal c :=
  Vector.getElem_set_ne (globalIndex b).isLt (globalIndex c).isLt fun he => h (globalIndex_inj hb hc (Fin.ext he))

@[simp] theorem readGlobal_writeGlobal_same (s : State) (c : BitVec 4) (v : Word) : (s.writeGlobal c v).readGlobal c = v :=
  Vector.getElem_set_self _

/-- A register reads as before after a write to another one. -/
theorem readSlot_writeSlot_ne (s : State) {x y : Slot} (v : Word) (hx : x.named = true) (hy : y.named = true) (h : x ≠ y) :
    (s.writeSlot v x).readSlot y = s.readSlot y := by
  cases x <;> cases y <;> first
    | rfl
    | (exact absurd rfl h)
    | skip
  · simp only [Slot.named, decide_eq_true_eq] at hx hy
    exact readLocal_writeLocal_ne s v (by omega) (by omega) fun hc => h (congrArg _ hc)
  · simp only [Slot.named, decide_eq_true_eq] at hx hy
    exact readGlobal_writeGlobal_ne s v hx hy fun hc => h (congrArg _ hc)

/-! ## Outcomes -/

/-- A sequence that answers a next state did so in both parts. -/
theorem andThen_inv {α β : Type} {x : Out α} {f : α → Out β} {b : β} (h : andThen x f = .next b) : ∃ a, x = .next a ∧ f a = .next b := by
  cases x with
  | next a => exact ⟨a, rfl, h⟩
  | fault r => cases r
  | refused r => cases h

/-- What an exception leaves, if it is taken (60 R470). -/
theorem takeException_inv {s u : State} {n : BitVec 6} {ret : Word} {i : Bool} (h : s.takeException n ret i = .next u) :
    ∃ e, trapEntry s.bus.mcr n = .next e ∧ u = s.enterException e ret i := by
  obtain ⟨e, he, hu⟩ := andThen_inv h
  exact ⟨e, he, (Host.Outcome.next.inj hu).symm⟩

/-- How an instruction ends, if it answers a next state: its body ran, and it ended normally or with an error exception. -/
theorem instruction_inv {len : Nat} {g b : Bool} {s t : State} {body : State → State → Out (State × Bool)}
    (h : instruction len g b s body = .next t) :
    s.frameRefusal len g b = none ∧ ∃ u e, body (s.begin len) (s.underway len 0 s.flags) = .next (u, e) ∧
      ((e = false ∧ t = u.settle s.delay) ∨ (e = true ∧ s.raises u = .next t)) := by
  cases hf : s.frameRefusal len g b with
  | some r => rw [instruction_refused hf] at h; cases h
  | none =>
    rw [instruction_eq hf] at h
    obtain ⟨⟨u, e⟩, hb, hu⟩ := andThen_inv h
    refine ⟨rfl, u, e, hb, ?_⟩
    cases e with
    | false => exact .inl ⟨rfl, (Host.Outcome.next.inj hu).symm⟩
    | true => exact .inr ⟨rfl, hu⟩

/-- What a memory read does, if it answers (20 R104). -/
theorem memRead_inv {s t : State} {z : Size} {a v : Word} (h : s.memRead z a = .next (v, t)) :
    s.readRefusal a = none ∧ v = s.valueAt z a ∧ t = s.afterRead z a := by
  unfold State.memRead at h
  split at h
  · cases h
  · cases h; exact ⟨by assumption, rfl, rfl⟩

/-- What a memory write does where the bus configuration gives it a meaning (20 R99, R104). -/
theorem memWrite_eq {t : State} {z : Size} {a v : Word} (h : t.areaRefusal (areaOf a) = none) : t.memWrite z a v = .next (t.written z a v) := by
  unfold State.memWrite State.written; rw [h]; dsimp only; split <;> rfl


/-- What a memory write does, if it answers. -/
theorem memWrite_inv {s t : State} {z : Size} {a v : Word} (h : s.memWrite z a v = .next t) :
    s.areaRefusal (areaOf a) = none ∧ t = s.written z a v := by
  cases hr : s.areaRefusal (areaOf a) with
  | some r => unfold State.memWrite at h; rw [hr] at h; cases h
  | none => rw [memWrite_eq hr] at h; exact ⟨rfl, (Host.Outcome.next.inj h).symm⟩

/-- What a memory write changes: memory and the SDRAM registers. -/
theorem written_frame (t : State) (z : Size) (a v : Word) :
    t.written z a v =
      { t with
        mem := (t.written z a v).mem
        bus := { t.bus with sdcr := (t.written z a v).bus.sdcr, sdramMode := (t.written z a v).bus.sdramMode } } := by
  unfold State.written; split
  · unfold State.sdramConfig; split <;> rfl
  · rw [State.store_frame]

@[simp] theorem written_locals (t : State) (z : Size) (a v : Word) : (t.written z a v).locals = t.locals := by rw [written_frame]

@[simp] theorem written_areaRefusal (t : State) (z : Size) (a v : Word) (area : Area) :
    (t.written z a v).areaRefusal area = t.areaRefusal area := by
  unfold State.areaRefusal; rw [written_frame]

@[simp] theorem written_mcr (t : State) (z : Size) (a v : Word) : (t.written z a v).bus.mcr = t.bus.mcr := by rw [written_frame]

/-- A stack access reaches memory or a local register (20 R112). -/
theorem stackRead_inv {s t : State} {a v : Word} (h : s.stackRead a = .next (v, t)) :
    (a < s.sp ∧ s.memRead .word a = .next (v, t)) ∨ (¬a < s.sp ∧ v = s.readAbsolute a ∧ t = s) := by
  unfold State.stackRead at h
  split at h
  · exact .inl ⟨by assumption, h⟩
  · cases h; exact .inr ⟨by assumption, rfl, rfl⟩

theorem stackWrite_inv {s t : State} {a v : Word} (h : s.stackWrite a v = .next t) :
    (a < s.sp ∧ s.memWrite .word a v = .next t) ∨ (¬a < s.sp ∧ t = s.writeAbsolute a v) := by
  unfold State.stackWrite at h
  split at h
  · exact .inl ⟨by assumption, h⟩
  · cases h; exact .inr ⟨by assumption, rfl⟩

/-- The address bits that leave the chip (20 R109). -/
theorem onPins_eq (s : State) (a : Word) : s.platform.variant.onPins a = s.devicePins a := by
  unfold Variant.onPins State.devicePins
  have low (v : Variant) : a.toNat % 2 ^ v.addressPins % 2 ^ 32 = a.toNat % 2 ^ v.addressPins :=
    Nat.mod_eq_of_lt (Nat.lt_of_lt_of_le (Nat.mod_lt _ (Nat.two_pow_pos _))
      (Nat.pow_le_pow_right (by decide) (by cases v <;> simp [Variant.addressPins])))
  cases s.platform.variant <;> apply BitVec.eq_of_toNat_eq <;>
    rw [BitVec.toNat_ofNat, BitVec.toNat_append, BitVec.extractLsb'_toNat, low] <;>
    simp only [BitVec.toNat_ofNat, Nat.zero_mod, Nat.zero_shiftLeft, Nat.zero_or, Nat.shiftRight_zero] <;> rfl

/-- An I/O read reaches a device or is the dummy load from a power address (20 R108, R110). -/
theorem ioRead_inv {s t : State} {a v : Word} (h : s.ioRead a = .next (v, t)) :
    (v = Config.ioRead s.ioLog (s.devicePins (Size.word.align a)) ∧ t = { s with ioLog := .read (s.devicePins (Size.word.align a)) :: s.ioLog }) ∨
      (v = s.fresh ∧ t = s.drawn 1) := by
  unfold State.ioRead at h
  dsimp only at h
  rw [onPins_eq] at h
  split at h
  · cases h; exact .inl ⟨rfl, rfl⟩
  · cases h
  · cases h; exact .inr ⟨rfl, rfl⟩

/-- An I/O write reaches a device or the power state. -/
theorem ioWrite_inv {s t : State} {a v : Word} (h : s.ioWrite a v = .next t) :
    t = { s with ioLog := .write (s.devicePins (Size.word.align a)) v :: s.ioLog } ∨ t = { s with power := .powerDown } ∨
      t = { s with power := .sleep } := by
  unfold State.ioWrite at h
  dsimp only at h
  rw [onPins_eq] at h
  split at h
  · cases h; exact .inl rfl
  · cases h; exact .inr (.inl rfl)
  · cases h; exact .inr (.inr rfl)
  · cases h

/-- A return address word (60 R470). -/
theorem returnWord_eq (ret : Word) (s : Bool) : returnWord ret s = ret.extractLsb' 1 31 ++ BitVec.ofBool s := by
  apply BitVec.eq_of_getLsbD_eq
  intro i hi
  have h1 : ∀ w : Word, (w &&& 0xFFFFFFFE).getLsbD i = (decide (i ≠ 0) && w.getLsbD i) := by
    intro w
    rw [BitVec.getLsbD_and]
    have : (0xFFFFFFFE#32).getLsbD i = decide (i ≠ 0) := by
      have : ∀ j : Fin 32, (0xFFFFFFFE#32).getLsbD j.val = decide (j.val ≠ 0) := by decide
      exact this ⟨i, hi⟩
    rw [show (0xFFFFFFFE : Word) = 0xFFFFFFFE#32 from rfl, this, Bool.and_comm]
  rw [returnWord, evenAddress, BitVec.getLsbD_or, h1, BitVec.getLsbD_append]
  rcases Nat.eq_zero_or_pos i with rfl | hp
  · cases s <;> rfl
  · have hb : (BitVec.setWidth 32 (BitVec.ofBool s)).getLsbD i = false := by
      rw [BitVec.getLsbD_setWidth, BitVec.getLsbD_of_ge _ _ (by omega), Bool.and_false]
    rw [hb, if_neg (by omega), BitVec.getLsbD_extractLsb']
    have : 1 + (i - 1) = i := by omega
    rw [this]
    have h3 : decide (i - 1 < 31) = true := decide_eq_true (by omega)
    simp [h3]; omega

/-! ## Pushing and pulling registers (45 R371, R382) -/

/-- The addresses of a push. -/
theorem addr_succ (p : Word) (j : Nat) : p + 4 + 4 * BitVec.ofNat 32 j = p + 4 * BitVec.ofNat 32 (j + 1) := by
  apply BitVec.eq_of_toNat_eq; simp [BitVec.toNat_add, BitVec.toNat_mul]; omega

@[simp] theorem pushOne_sp (t : State) : t.pushOne.sp = t.sp + 4 := rfl

@[simp] theorem pushOne_mcr (t : State) : t.pushOne.bus.mcr = t.bus.mcr := written_mcr t .word t.sp (t.readAbsolute t.sp)

@[simp] theorem pushOne_areaRefusal (t : State) (area : Area) : t.pushOne.areaRefusal area = t.areaRefusal area :=
  written_areaRefusal t .word t.sp (t.readAbsolute t.sp) area

@[simp] theorem pushOne_locals (t : State) : t.pushOne.locals = t.locals := written_locals t .word t.sp (t.readAbsolute t.sp)

/-- What a push of `k` registers does where the bus configuration gives every write a meaning (45 R371). -/
theorem push_eq (k : Nat) (t : State) (h : ∀ j, j < k → t.areaRefusal (areaOf (t.sp + 4 * BitVec.ofNat 32 j)) = none) :
    t.push k = .next (t.pushed k) := by
  induction k generalizing t with
  | zero => rfl
  | succ k ih =>
    have h0 := h 0 (by omega)
    have hz : t.sp + 4 * BitVec.ofNat 32 0 = t.sp := by simp
    rw [hz] at h0
    unfold State.push
    rw [memWrite_eq h0, andThen_next]
    refine ih t.pushOne fun j hj => ?_
    rw [pushOne_areaRefusal, pushOne_sp, addr_succ]
    exact h (j + 1) (by omega)

@[simp] theorem pullOne_sp (t : State) : t.pullOne.sp = t.sp - 4 := rfl

/-- The addresses of a pull. -/
theorem addr_pred (p : Word) (j : Nat) : p - 4 - 4 - 4 * BitVec.ofNat 32 j = p - 4 - 4 * BitVec.ofNat 32 (j + 1) := by
  have h : (4#32) * BitVec.ofNat 32 (j + 1) = 4 + 4 * BitVec.ofNat 32 j := by
    apply BitVec.eq_of_toNat_eq; simp [BitVec.toNat_add, BitVec.toNat_mul]; omega
  show p - 4#32 - 4#32 - 4#32 * _ = p - 4#32 - 4#32 * _
  rw [h]
  generalize (4#32 * BitVec.ofNat 32 j) = x
  have : ∀ p x : BitVec 32, p - 4#32 - 4#32 - x = p - 4#32 - (4 + x) := by intro p x; bv_omega
  exact this p x

/-- What a pull of `k` words does where the bus configuration gives every read a meaning (45 R382). -/
theorem pull_eq (k : Nat) (t : State) (h : ∀ j, j < k → t.readRefusal (t.sp - 4 - 4 * BitVec.ofNat 32 j) = none) :
    t.pull k = .next (t.pulled k) := by
  induction k generalizing t with
  | zero => rfl
  | succ k ih =>
    have hz : t.sp - 4 - 4 * BitVec.ofNat 32 0 = t.sp - 4 := by simp
    have h0 := h 0 (by omega)
    rw [hz] at h0
    unfold State.pull State.memRead
    dsimp only
    rw [h0]
    dsimp only [andThen_next]
    refine ih t.pullOne fun j hj => ?_
    rw [pullOne_sp, addr_pred]
    exact h (j + 1) (by omega)

/-- The number of words that a difference of registers stands for. -/
theorem shortfall_eq (d : BitVec 7) : shortfall d = (-d.toInt).toNat := by
  unfold shortfall
  have h1 := d.isLt
  rw [BitVec.toInt_eq_msb_cond]
  split <;> omega

/-! ## Power-down (61 R541) -/

/-- A wakeup changes the power state alone. -/
theorem State.wakened_frame (s : State) : s.wakened = { s with power := s.wakened.power } := by unfold State.wakened; split <;> rfl

/-- A processor that runs is left as it is. -/
theorem State.wakened_running {s : State} (h : s.power = .running) : s.wakened = s := by unfold State.wakened; rw [if_neg (by simp [h])]

@[simp] theorem State.wakened_sr (s : State) : s.wakened.sr = s.sr := by rw [State.wakened_frame]

@[simp] theorem State.wakened_pc (s : State) : s.wakened.pc = s.pc := by rw [State.wakened_frame]

@[simp] theorem State.wakened_eovPending (s : State) : s.wakened.eovPending = s.eovPending := by rw [State.wakened_frame]

@[simp] theorem State.wakened_parityPending (s : State) : s.wakened.parityPending = s.parityPending := by rw [State.wakened_frame]

@[simp] theorem State.wakened_interrupt (s : State) : s.wakened.interrupt = s.interrupt := by unfold State.wakened; split <;> rfl

end Sys2Proof.Machine
end

