-- ==== Sys2Proof/Laws/Cache.lean ====
section
/-! SUPPORT. Laws/Cache.lean: what the operations on the instruction cache do, what they keep, and what a fetch changes. -/

namespace Sys2Proof.Machine

/-! ## The cache by itself -/

theorem Cache.wf_iff (c : Cache) :
    c.wf = true ↔ c.lookBack.toNat % 4 = 0 ∧ c.lookAhead.toNat % 4 = 0 ∧ (c.lookAhead - c.lookBack).toNat ≤ 124 ∧
      (c.empty = true → c.lookAhead = c.lookBack) := by
  have low (w : Word) : w.extractLsb' 0 2 = 0 ↔ w.toNat % 4 = 0 := by
    rw [← BitVec.toNat_inj, BitVec.extractLsb'_toNat]; simp
  simp only [Cache.wf, Bool.and_eq_true, decide_eq_true_eq, low, and_assoc]
  cases c.empty <;> simp

theorem cacheSlot_eq_iff (a b : Word) : cacheSlot a = cacheSlot b ↔ a.toNat / 4 % 32 = b.toNat / 4 % 32 := by
  unfold cacheSlot
  rw [← Fin.val_inj]
  simp [BitVec.extractLsb'_toNat, Nat.shiftRight_eq_div_pow]

theorem wordAddress_toNat (a : Word) : (wordAddress a).toNat = a.toNat - a.toNat % 4 := by
  have h : wordAddress a = (a >>> 2) <<< 2 := by
    unfold wordAddress
    apply BitVec.eq_of_getLsbD_eq
    intro i hi
    have hm : (0xFFFFFFFC#32).getLsbD i = decide (2 ≤ i) := by
      have : ∀ j : Fin 32, (0xFFFFFFFC#32).getLsbD j.val = decide (2 ≤ j.val) := by decide
      exact this ⟨i, hi⟩
    rw [BitVec.getLsbD_and, show (0xFFFFFFFC : Word) = 0xFFFFFFFC#32 from rfl, hm, BitVec.getLsbD_shiftLeft, BitVec.getLsbD_ushiftRight]
    by_cases h2 : 2 ≤ i
    · rw [show 2 + (i - 2) = i by omega, decide_eq_true h2, decide_eq_true hi, decide_eq_false (show ¬i < 2 by omega)]
      simp only [Bool.and_true, Bool.not_false, Bool.true_and]
    · rw [decide_eq_false h2, decide_eq_true (show i < 2 by omega), decide_eq_true hi]
      simp only [Bool.and_false, Bool.not_true, Bool.false_and]
  rw [h, BitVec.toNat_shiftLeft, BitVec.toNat_ushiftRight]
  simp only [Nat.shiftLeft_eq, Nat.shiftRight_eq_div_pow]
  omega

@[simp] theorem wordAddress_wordAddress (a : Word) : wordAddress (wordAddress a) = wordAddress a := by
  apply BitVec.eq_of_toNat_eq; rw [wordAddress_toNat, wordAddress_toNat]; omega

@[simp] theorem cacheSlot_wordAddress (a : Word) : cacheSlot (wordAddress a) = cacheSlot a := by
  rw [cacheSlot_eq_iff, wordAddress_toNat]; omega

@[simp] theorem Cache.restart_wf (c : Cache) (a : Word) : (c.restart a).wf = true := by
  rw [Cache.wf_iff]
  have := wordAddress_toNat a
  have := a.isLt
  simp only [Cache.restart, BitVec.sub_self]
  exact ⟨by omega, by omega, by simp, by simp⟩

@[simp] theorem Cache.flush_wf (c : Cache) (a : Word) : (c.flush a).wf = true := Cache.restart_wf c a

@[simp] theorem Cache.restart_holds (c : Cache) (a w : Word) : (c.restart a).holds w = false := rfl

@[simp] theorem Cache.restart_next (c : Cache) (a : Word) : (c.restart a).next = wordAddress a := rfl

@[simp] theorem Cache.flush_holds (c : Cache) (a w : Word) : (c.flush a).holds w = false := rfl

@[simp] theorem Cache.flush_next (c : Cache) (a : Word) : (c.flush a).next = wordAddress a := rfl

@[simp] theorem Cache.flush_flushAfterSlot (c : Cache) (a : Word) : (c.flush a).flushAfterSlot = false := rfl

@[simp] theorem Cache.load_flushAfterSlot (c : Cache) (v : Word) : (c.load v).flushAfterSlot = c.flushAfterSlot := rfl

@[simp] theorem Cache.load_lookAhead (c : Cache) (v : Word) : (c.load v).lookAhead = c.next := rfl

@[simp] theorem Cache.load_empty (c : Cache) (v : Word) : (c.load v).empty = false := rfl

/-- Words at multiples of four above another one. -/
theorem word_above {a b : Word} (ha : a.toNat % 4 = 0) (hb : b.toNat % 4 = 0) :
    ∃ k, k < 2 ^ 30 ∧ (a - b).toNat = 4 * k ∧ a.toNat = (b.toNat + 4 * k) % 2 ^ 32 ∧ a.toNat / 4 % 32 = (b.toNat / 4 + k) % 32 := by
  have := a.isLt
  have := b.isLt
  have h : (a - b).toNat % 4 = 0 := by bv_omega
  refine ⟨(a - b).toNat / 4, by bv_omega, by omega, by bv_omega, ?_⟩
  have h1 : a.toNat = (b.toNat + (a - b).toNat) % 2 ^ 32 := by bv_omega
  rw [h1]
  generalize (a - b).toNat = d at h
  omega

/-- A load keeps the bounds of the cache (20 R114, R115). -/
theorem Cache.load_wf {c : Cache} (v : Word) (h : c.wf = true) : (c.load v).wf = true := by
  rw [Cache.wf_iff] at h ⊢
  obtain ⟨h1, h2, h3, h4⟩ := h
  have e1 := c.lookAhead.isLt
  have e2 := c.lookBack.isLt
  cases he : c.empty with
  | true => simp only [Cache.load, Cache.next, he]; exact ⟨h1, h2, h3, by simp⟩
  | false =>
    have hn : (c.lookAhead + 4).toNat % 4 = 0 := by bv_omega
    obtain ⟨k, k1, k2, k3, k4⟩ := word_above hn h1
    have hk : k ≤ 32 := by bv_omega
    simp only [Cache.load, Cache.next, he, Bool.not_false, Bool.true_and, beq_iff_eq, cacheSlot_eq_iff]
    refine ⟨?_, hn, ?_, by simp⟩ <;> simp only [Bool.false_eq_true, if_false] <;> split <;> rename_i hc
    · bv_omega
    · exact h1
    · bv_omega
    · rw [k2]; omega

theorem Cache.holds_iff (c : Cache) (w : Word) :
    c.holds w = true ↔ c.empty = false ∧ (w - c.lookBack).toNat ≤ (c.lookAhead - c.lookBack).toNat := by
  simp [Cache.holds]

/-- What is available after a load: the word loaded, and of the words that were those that it has not overwritten (20 R114, R115). -/
theorem Cache.holds_load {c : Cache} {v w : Word} (h : c.wf = true) (hw : w.toNat % 4 = 0) (hh : (c.load v).holds w = true) :
    (w = c.next ∧ (c.load v).words[cacheSlot w] = v) ∨ (c.holds w = true ∧ (c.load v).words[cacheSlot w] = c.words[cacheSlot w]) := by
  rw [Cache.wf_iff] at h
  obtain ⟨h1, h2, h3, h4⟩ := h
  have e1 := c.lookAhead.isLt
  have e2 := c.lookBack.isLt
  have e3 := w.isLt
  by_cases hn : w = c.next
  · subst hn; exact .inl ⟨rfl, Vector.getElem_set_self _⟩
  refine .inr ?_
  rw [Cache.holds_iff] at hh ⊢
  replace hh := hh.2
  cases he : c.empty with
  | true =>
    simp only [Cache.load, Cache.next, he, Bool.not_true, Bool.false_and, Bool.false_eq_true, if_false, if_true] at hh hn
    have h4 := h4 he
    bv_omega
  | false =>
    have hm : (c.lookAhead + 4).toNat % 4 = 0 := by bv_omega
    obtain ⟨k, k1, k2, k3, k4⟩ := word_above hm h1
    obtain ⟨j, j1, j2, j3, j4⟩ := word_above hw h1
    have hk : k ≤ 32 := by bv_omega
    have hk1 : 1 ≤ k := by bv_omega
    simp only [Cache.load, Cache.next, he, Bool.not_false, Bool.true_and, Bool.false_eq_true, if_false, beq_iff_eq, cacheSlot_eq_iff, k4] at hh hn
    have hjk : j ≠ k := fun hc => hn (BitVec.eq_of_toNat_eq (by rw [j3, k3, hc]))
    have hj : j < k ∧ k ≤ j + 32 ∧ ¬(k = 32 ∧ j = 0) := by
      split at hh
      · have hk : k = 32 := by omega
        have h5 : (c.lookAhead + 4 - (c.lookBack + 4)).toNat = 124 := by bv_omega
        rw [h5] at hh
        have h6 : j ≠ 0 := fun hc => by bv_omega
        have h7 : j < 32 := by bv_omega
        omega
      · rw [j2, k2] at hh; omega
    refine ⟨⟨rfl, by bv_omega⟩, Vector.getElem_set_ne (cacheSlot c.next).isLt (cacheSlot w).isLt fun hc => ?_⟩
    have hc := (cacheSlot_eq_iff _ _).mp (Fin.ext hc)
    rw [Cache.next, he] at hc
    simp only [Bool.false_eq_true, if_false] at hc
    omega

/-- The word after the last one becomes available. -/
theorem Cache.holds_load_next {c : Cache} (v : Word) (h : c.wf = true) : (c.load v).holds c.next = true := by
  have hw := (Cache.wf_iff _).mp (Cache.load_wf v h)
  rw [Cache.holds_iff]
  exact ⟨rfl, Nat.le_of_eq (by rw [Cache.load_lookAhead])⟩

/-! ## What a fetch changes -/

/-- `t` is `s` with the cache loaded further: nothing else has changed but the number of free values used and, where a parity check failed, the
Parity Error pended. -/
structure State.LoadedTo (s t : State) : Prop where
  frame : t = { s with cache := t.cache, draws := t.draws, parityPending := t.parityPending }
  wf : s.cache.wf = true → t.cache.wf = true
  parity : (∀ area, s.parityHit area = false) → t.parityPending = s.parityPending

theorem State.LoadedTo.refl (s : State) : s.LoadedTo s := ⟨rfl, id, fun _ => rfl⟩

theorem State.LoadedTo.trans {s t u : State} (h : s.LoadedTo t) (h' : t.LoadedTo u) : s.LoadedTo u where
  frame := by rw [h'.frame, h.frame]
  wf := fun hw => h'.wf (h.wf hw)
  parity := fun hp => by
    rw [h'.parity ?_, h.parity hp]
    intro area; rw [h.frame]; exact hp area

theorem State.LoadedTo.readRefusal {s t : State} (h : s.LoadedTo t) (a : Word) : t.readRefusal a = s.readRefusal a := by
  rw [h.frame]; rfl

theorem State.LoadedTo.byteAt {s t : State} (h : s.LoadedTo t) (a : Word) : t.byteAt a = s.byteAt a := by
  rw [h.frame]; rfl

theorem State.LoadedTo.pc {s t : State} (h : s.LoadedTo t) : t.pc = s.pc := by rw [h.frame]

theorem State.loadCacheWord_loaded (s : State) : s.LoadedTo s.loadCacheWord where
  frame := rfl
  wf := fun h => Cache.load_wf _ h
  parity := fun h => by simp [State.loadCacheWord, h]

theorem State.prefetch_loaded (last : Word) (k : Nat) (s : State) : s.LoadedTo (State.prefetch last k s) := by
  induction k generalizing s with
  | zero => exact .refl s
  | succ k ih =>
    unfold State.prefetch; split
    · exact .refl s
    · exact s.loadCacheWord_loaded.trans (ih _)

theorem State.approach_loaded (s : State) (w : Word) : s.LoadedTo (s.approach w) := by
  unfold State.approach; split
  · exact .refl s
  · exact State.prefetch_loaded _ _ s

/-- A demand loads the cache until it holds the word. -/
theorem State.demand_inv {s t : State} {w : Word} (h : s.demand w = .next t) : s.LoadedTo t := by
  unfold State.demand at h
  have h1 := s.approach_loaded w
  dsimp only at h
  generalize s.approach w = u at h h1
  split at h
  · cases h; exact h1
  · split at h
    · cases h
    · cases h
      exact h1.trans (.trans (t := { u with cache := u.cache.restart w }) ⟨rfl, fun _ => Cache.restart_wf _ _, fun _ => rfl⟩
        (State.loadCacheWord_loaded _))

/-- Where the word can be read, a demand answers, and the word is available afterwards. -/
theorem State.demand_holds {s : State} {a : Word} (hr : s.readRefusal (wordAddress a) = none) :
    ∃ t, s.demand (wordAddress a) = .next t ∧ t.cache.holds (wordAddress a) = true := by
  unfold State.demand
  have h := s.approach_loaded (wordAddress a)
  dsimp only
  generalize s.approach (wordAddress a) = u at h
  split
  · exact ⟨_, rfl, by assumption⟩
  · rw [h.readRefusal, hr]
    have := Cache.holds_load_next (c := u.cache.restart (wordAddress a))
      (({ u with cache := u.cache.restart (wordAddress a) } : State).valueAt .word (wordAddress a)) (Cache.restart_wf _ _)
    rw [Cache.restart_next, wordAddress_wordAddress] at this
    exact ⟨_, rfl, by rw [State.loadCacheWord]; simpa using this⟩

theorem State.delivered_loaded (s : State) (a : Word) : s.LoadedTo (s.delivered a).2 := by
  unfold State.delivered
  split
  · split
    · exact .refl s
    · exact ⟨rfl, id, fun _ => rfl⟩
  · exact .refl s

theorem State.fetchHalf_inv {s t : State} {a : Word} {h : Half} (hf : s.fetchHalf a = .next (h, t)) : s.LoadedTo t := by
  obtain ⟨u, hu, ht⟩ := andThen_inv hf
  have hd := State.delivered_loaded u (Size.half.align a)
  rw [Host.Outcome.next.inj ht] at hd
  exact (State.demand_inv hu).trans hd

theorem State.fetchIf_inv {s t : State} {b : Bool} {a : Word} {h : Half} (hf : s.fetchIf b a = .next (h, t)) : s.LoadedTo t := by
  unfold State.fetchIf at hf
  split at hf
  · exact State.fetchHalf_inv hf
  · cases hf; exact .refl _

theorem State.fetchHalves_inv {s t : State} {a : Word} {hs : Half × Half × Half} (hf : s.fetchHalves a = .next (hs, t)) : s.LoadedTo t := by
  obtain ⟨⟨h1, s1⟩, e1, hf⟩ := andThen_inv hf
  obtain ⟨⟨h2, s2⟩, e2, hf⟩ := andThen_inv hf
  obtain ⟨⟨h3, s3⟩, e3, hf⟩ := andThen_inv hf
  cases hf
  exact (State.fetchHalf_inv e1).trans ((State.fetchIf_inv e2).trans (State.fetchIf_inv e3))

theorem State.runAhead_loaded (s : State) : s.LoadedTo s.runAhead := by
  unfold State.runAhead
  dsimp only
  split
  · exact .trans (t := { s with cache := s.cache.flush s.pc }) ⟨rfl, fun _ => Cache.flush_wf _ _, fun _ => rfl⟩ (State.prefetch_loaded _ _ _)
  · exact State.prefetch_loaded _ _ _

/-- A fetch reads half-words that decode to the instruction; it loads the cache and changes nothing else. -/
theorem State.fetch_inv {s t : State} {i : Instr} (h : s.fetch = .next (i, t)) :
    s.LoadedTo t ∧ ∃ h1 h2 h3, decode h1 h2 h3 = .ok i := by
  obtain ⟨⟨hs, u⟩, hu, h⟩ := andThen_inv h
  obtain ⟨j, hj, h⟩ := andThen_inv h
  cases h
  refine ⟨(State.fetchHalves_inv hu).trans u.runAhead_loaded, hs.1, hs.2.1, hs.2.2, ?_⟩
  unfold decodeOut at hj
  split at hj
  · cases hj; assumption
  · cases hj

end Sys2Proof.Machine
end

