-- ==== Sys2Proof/Laws/Dispatch.lean ====
section
/-! SUPPORT. Laws/Dispatch.lean: exec on each instruction is that instruction's meaning. -/

namespace Sys2Proof.Machine

theorem exec_divu (rd rs : Reg) (s : State) : exec (.divu rd rs) s = execDivu rd rs s := rfl

theorem exec_divs (rd rs : Reg) (s : State) : exec (.divs rd rs) s = execDivs rd rs s := rfl

theorem exec_cmp (rd rs : Reg) (s : State) : exec (.cmp rd rs) s = execCmp rd rs s := rfl

theorem exec_mov (rd rs : Reg) (s : State) : exec (.mov rd rs) s = execMov rd rs s := rfl

theorem exec_add (rd rs : Reg) (s : State) : exec (.add rd rs) s = execAdd rd rs s := rfl

theorem exec_adds (rd rs : Reg) (s : State) : exec (.adds rd rs) s = execAdds rd rs s := rfl

theorem exec_cmpb (rd rs : Reg) (s : State) : exec (.cmpb rd rs) s = execCmpb rd rs s := rfl

theorem exec_andn (rd rs : Reg) (s : State) : exec (.andn rd rs) s = execAndn rd rs s := rfl

theorem exec_or (rd rs : Reg) (s : State) : exec (.or rd rs) s = execOr rd rs s := rfl

theorem exec_xor (rd rs : Reg) (s : State) : exec (.xor rd rs) s = execXor rd rs s := rfl

theorem exec_subc (rd rs : Reg) (s : State) : exec (.subc rd rs) s = execSubc rd rs s := rfl

theorem exec_not (rd rs : Reg) (s : State) : exec (.not rd rs) s = execNot rd rs s := rfl

theorem exec_sub (rd rs : Reg) (s : State) : exec (.sub rd rs) s = execSub rd rs s := rfl

theorem exec_subs (rd rs : Reg) (s : State) : exec (.subs rd rs) s = execSubs rd rs s := rfl

theorem exec_addc (rd rs : Reg) (s : State) : exec (.addc rd rs) s = execAddc rd rs s := rfl

theorem exec_and (rd rs : Reg) (s : State) : exec (.and rd rs) s = execAnd rd rs s := rfl

theorem exec_neg (rd rs : Reg) (s : State) : exec (.neg rd rs) s = execNeg rd rs s := rfl

theorem exec_negs (rd rs : Reg) (s : State) : exec (.negs rd rs) s = execNegs rd rs s := rfl

theorem exec_mulu (rd rs : Reg) (s : State) : exec (.mulu rd rs) s = execMulu rd rs s := rfl

theorem exec_muls (rd rs : Reg) (s : State) : exec (.muls rd rs) s = execMuls rd rs s := rfl

theorem exec_mul (rd rs : Reg) (s : State) : exec (.mul rd rs) s = execMul rd rs s := rfl

theorem exec_chk (rd rs : Reg) (s : State) : exec (.chk rd rs) s = execChk rd rs s := rfl

theorem exec_chkz (rd : Reg) (s : State) : exec (.chkz rd) s = execChkz rd s := rfl

theorem exec_nop (s : State) : exec (.nop) s = execNop s := rfl

theorem exec_movd (rd rs : Reg) (s : State) : exec (.movd rd rs) s = execMovd rd rs s := rfl

theorem exec_ret (rs : Reg) (s : State) : exec (.ret rs) s = execRet rs s := rfl

theorem exec_xm1 (rd rs : Reg) (lim : Lim) (s : State) : exec (.xm1 rd rs lim) s = execXm1 rd rs lim s := rfl

theorem exec_xm2 (rd rs : Reg) (lim : Lim) (s : State) : exec (.xm2 rd rs lim) s = execXm2 rd rs lim s := rfl

theorem exec_xm4 (rd rs : Reg) (lim : Lim) (s : State) : exec (.xm4 rd rs lim) s = execXm4 rd rs lim s := rfl

theorem exec_xm8 (rd rs : Reg) (lim : Lim) (s : State) : exec (.xm8 rd rs lim) s = execXm8 rd rs lim s := rfl

theorem exec_xx1 (rd rs : Reg) (lim : Lim) (s : State) : exec (.xx1 rd rs lim) s = execXx1 rd rs lim s := rfl

theorem exec_xx2 (rd rs : Reg) (lim : Lim) (s : State) : exec (.xx2 rd rs lim) s = execXx2 rd rs lim s := rfl

theorem exec_xx4 (rd rs : Reg) (lim : Lim) (s : State) : exec (.xx4 rd rs lim) s = execXx4 rd rs lim s := rfl

theorem exec_xx8 (rd rs : Reg) (lim : Lim) (s : State) : exec (.xx8 rd rs lim) s = execXx8 rd rs lim s := rfl

theorem exec_mask (rd rs : Reg) (const : Const) (s : State) : exec (.mask rd rs const) s = execMask rd rs const s := rfl

theorem exec_sum (rd rs : Reg) (const : Const) (s : State) : exec (.sum rd rs const) s = execSum rd rs const s := rfl

theorem exec_sums (rd rs : Reg) (const : Const) (s : State) : exec (.sums rd rs const) s = execSums rd rs const s := rfl

theorem exec_cmpi (rd : Reg) (imm : Imm) (s : State) : exec (.cmpi rd imm) s = execCmpi rd imm s := rfl

theorem exec_movi (rd : Reg) (imm : Imm) (s : State) : exec (.movi rd imm) s = execMovi rd imm s := rfl

theorem exec_addi (rd : Reg) (imm : Imm) (s : State) : exec (.addi rd imm) s = execAddi rd imm s := rfl

theorem exec_addsi (rd : Reg) (imm : Imm) (s : State) : exec (.addsi rd imm) s = execAddsi rd imm s := rfl

theorem exec_cmpbi (rd : Reg) (imm : Imm) (s : State) : exec (.cmpbi rd imm) s = execCmpbi rd imm s := rfl

theorem exec_andni (rd : Reg) (imm : Imm) (s : State) : exec (.andni rd imm) s = execAndni rd imm s := rfl

theorem exec_ori (rd : Reg) (imm : Imm) (s : State) : exec (.ori rd imm) s = execOri rd imm s := rfl

theorem exec_xori (rd : Reg) (imm : Imm) (s : State) : exec (.xori rd imm) s = execXori rd imm s := rfl

theorem exec_addiCz (rd : Reg) (s : State) : exec (.addiCz rd) s = execAddiCz rd s := rfl

theorem exec_addsiCz (rd : Reg) (s : State) : exec (.addsiCz rd) s = execAddsiCz rd s := rfl

theorem exec_cmpbiAnybz (rd : Reg) (s : State) : exec (.cmpbiAnybz rd) s = execCmpbiAnybz rd s := rfl

theorem exec_shrdi (ld : BitVec 4) (n : BitVec 5) (s : State) : exec (.shrdi ld n) s = execShrdi ld n s := rfl

theorem exec_shrd (ld ls : BitVec 4) (s : State) : exec (.shrd ld ls) s = execShrd ld ls s := rfl

theorem exec_shr (ld ls : BitVec 4) (s : State) : exec (.shr ld ls) s = execShr ld ls s := rfl

theorem exec_sardi (ld : BitVec 4) (n : BitVec 5) (s : State) : exec (.sardi ld n) s = execSardi ld n s := rfl

theorem exec_sard (ld ls : BitVec 4) (s : State) : exec (.sard ld ls) s = execSard ld ls s := rfl

theorem exec_sar (ld ls : BitVec 4) (s : State) : exec (.sar ld ls) s = execSar ld ls s := rfl

theorem exec_shldi (ld : BitVec 4) (n : BitVec 5) (s : State) : exec (.shldi ld n) s = execShldi ld n s := rfl

theorem exec_shld (ld ls : BitVec 4) (s : State) : exec (.shld ld ls) s = execShld ld ls s := rfl

theorem exec_shl (ld ls : BitVec 4) (s : State) : exec (.shl ld ls) s = execShl ld ls s := rfl

theorem exec_testlz (ld ls : BitVec 4) (s : State) : exec (.testlz ld ls) s = execTestlz ld ls s := rfl

theorem exec_rol (ld ls : BitVec 4) (s : State) : exec (.rol ld ls) s = execRol ld ls s := rfl

theorem exec_shri (rd : Reg) (n : BitVec 5) (s : State) : exec (.shri rd n) s = execShri rd n s := rfl

theorem exec_sari (rd : Reg) (n : BitVec 5) (s : State) : exec (.sari rd n) s = execSari rd n s := rfl

theorem exec_shli (rd : Reg) (n : BitVec 5) (s : State) : exec (.shli rd n) s = execShli rd n s := rfl

theorem exec_ldbsD (rd rs : Reg) (dis : DisB) (s : State) : exec (.ldbsD rd rs dis) s = execLdbsD rd rs dis s := rfl

theorem exec_ldbsA (rs : Reg) (dis : DisB) (s : State) : exec (.ldbsA rs dis) s = execLdbsA rs dis s := rfl

theorem exec_ldbuD (rd rs : Reg) (dis : DisB) (s : State) : exec (.ldbuD rd rs dis) s = execLdbuD rd rs dis s := rfl

theorem exec_ldbuA (rs : Reg) (dis : DisB) (s : State) : exec (.ldbuA rs dis) s = execLdbuA rs dis s := rfl

theorem exec_ldhuD (rd rs : Reg) (dis : DisH) (s : State) : exec (.ldhuD rd rs dis) s = execLdhuD rd rs dis s := rfl

theorem exec_ldhuA (rs : Reg) (dis : DisH) (s : State) : exec (.ldhuA rs dis) s = execLdhuA rs dis s := rfl

theorem exec_ldhsD (rd rs : Reg) (dis : DisH) (s : State) : exec (.ldhsD rd rs dis) s = execLdhsD rd rs dis s := rfl

theorem exec_ldhsA (rs : Reg) (dis : DisH) (s : State) : exec (.ldhsA rs dis) s = execLdhsA rs dis s := rfl

theorem exec_ldwD (rd rs : Reg) (dis : DisW) (s : State) : exec (.ldwD rd rs dis) s = execLdwD rd rs dis s := rfl

theorem exec_ldwA (rs : Reg) (dis : DisW) (s : State) : exec (.ldwA rs dis) s = execLdwA rs dis s := rfl

theorem exec_lddD (rd rs : Reg) (dis : DisW) (s : State) : exec (.lddD rd rs dis) s = execLddD rd rs dis s := rfl

theorem exec_lddA (rs : Reg) (dis : DisW) (s : State) : exec (.lddA rs dis) s = execLddA rs dis s := rfl

theorem exec_ldwIod (rd rs : Reg) (dis : DisW) (s : State) : exec (.ldwIod rd rs dis) s = execLdwIod rd rs dis s := rfl

theorem exec_ldwIoa (rs : Reg) (dis : DisW) (s : State) : exec (.ldwIoa rs dis) s = execLdwIoa rs dis s := rfl

theorem exec_lddIod (rd rs : Reg) (dis : DisW) (s : State) : exec (.lddIod rd rs dis) s = execLddIod rd rs dis s := rfl

theorem exec_lddIoa (rs : Reg) (dis : DisW) (s : State) : exec (.lddIoa rs dis) s = execLddIoa rs dis s := rfl

theorem exec_ldbsN (rd rs : Reg) (dis : DisB) (s : State) : exec (.ldbsN rd rs dis) s = execLdbsN rd rs dis s := rfl

theorem exec_ldbuN (rd rs : Reg) (dis : DisB) (s : State) : exec (.ldbuN rd rs dis) s = execLdbuN rd rs dis s := rfl

theorem exec_ldhuN (rd rs : Reg) (dis : DisH) (s : State) : exec (.ldhuN rd rs dis) s = execLdhuN rd rs dis s := rfl

theorem exec_ldhsN (rd rs : Reg) (dis : DisH) (s : State) : exec (.ldhsN rd rs dis) s = execLdhsN rd rs dis s := rfl

theorem exec_ldwN (rd rs : Reg) (dis : DisW) (s : State) : exec (.ldwN rd rs dis) s = execLdwN rd rs dis s := rfl

theorem exec_lddN (rd rs : Reg) (dis : DisW) (s : State) : exec (.lddN rd rs dis) s = execLddN rd rs dis s := rfl

theorem exec_ldwS (rd rs : Reg) (dis : DisW) (s : State) : exec (.ldwS rd rs dis) s = execLdwS rd rs dis s := rfl

theorem exec_stbsD (rd rs : Reg) (dis : DisB) (s : State) : exec (.stbsD rd rs dis) s = execStbsD rd rs dis s := rfl

theorem exec_stbsA (rs : Reg) (dis : DisB) (s : State) : exec (.stbsA rs dis) s = execStbsA rs dis s := rfl

theorem exec_stbuD (rd rs : Reg) (dis : DisB) (s : State) : exec (.stbuD rd rs dis) s = execStbuD rd rs dis s := rfl

theorem exec_stbuA (rs : Reg) (dis : DisB) (s : State) : exec (.stbuA rs dis) s = execStbuA rs dis s := rfl

theorem exec_sthuD (rd rs : Reg) (dis : DisH) (s : State) : exec (.sthuD rd rs dis) s = execSthuD rd rs dis s := rfl

theorem exec_sthuA (rs : Reg) (dis : DisH) (s : State) : exec (.sthuA rs dis) s = execSthuA rs dis s := rfl

theorem exec_sthsD (rd rs : Reg) (dis : DisH) (s : State) : exec (.sthsD rd rs dis) s = execSthsD rd rs dis s := rfl

theorem exec_sthsA (rs : Reg) (dis : DisH) (s : State) : exec (.sthsA rs dis) s = execSthsA rs dis s := rfl

theorem exec_stwD (rd rs : Reg) (dis : DisW) (s : State) : exec (.stwD rd rs dis) s = execStwD rd rs dis s := rfl

theorem exec_stwA (rs : Reg) (dis : DisW) (s : State) : exec (.stwA rs dis) s = execStwA rs dis s := rfl

theorem exec_stdD (rd rs : Reg) (dis : DisW) (s : State) : exec (.stdD rd rs dis) s = execStdD rd rs dis s := rfl

theorem exec_stdA (rs : Reg) (dis : DisW) (s : State) : exec (.stdA rs dis) s = execStdA rs dis s := rfl

theorem exec_stwIod (rd rs : Reg) (dis : DisW) (s : State) : exec (.stwIod rd rs dis) s = execStwIod rd rs dis s := rfl

theorem exec_stwIoa (rs : Reg) (dis : DisW) (s : State) : exec (.stwIoa rs dis) s = execStwIoa rs dis s := rfl

theorem exec_stdIod (rd rs : Reg) (dis : DisW) (s : State) : exec (.stdIod rd rs dis) s = execStdIod rd rs dis s := rfl

theorem exec_stdIoa (rs : Reg) (dis : DisW) (s : State) : exec (.stdIoa rs dis) s = execStdIoa rs dis s := rfl

theorem exec_stbsN (rd rs : Reg) (dis : DisB) (s : State) : exec (.stbsN rd rs dis) s = execStbsN rd rs dis s := rfl

theorem exec_stbuN (rd rs : Reg) (dis : DisB) (s : State) : exec (.stbuN rd rs dis) s = execStbuN rd rs dis s := rfl

theorem exec_sthuN (rd rs : Reg) (dis : DisH) (s : State) : exec (.sthuN rd rs dis) s = execSthuN rd rs dis s := rfl

theorem exec_sthsN (rd rs : Reg) (dis : DisH) (s : State) : exec (.sthsN rd rs dis) s = execSthsN rd rs dis s := rfl

theorem exec_stwN (rd rs : Reg) (dis : DisW) (s : State) : exec (.stwN rd rs dis) s = execStwN rd rs dis s := rfl

theorem exec_stdN (rd rs : Reg) (dis : DisW) (s : State) : exec (.stdN rd rs dis) s = execStdN rd rs dis s := rfl

theorem exec_stwS (rd rs : Reg) (dis : DisW) (s : State) : exec (.stwS rd rs dis) s = execStwS rd rs dis s := rfl

theorem exec_ldwR (ld : BitVec 4) (rs : Reg) (s : State) : exec (.ldwR ld rs) s = execLdwR ld rs s := rfl

theorem exec_lddR (ld : BitVec 4) (rs : Reg) (s : State) : exec (.lddR ld rs) s = execLddR ld rs s := rfl

theorem exec_ldwP (ld : BitVec 4) (rs : Reg) (s : State) : exec (.ldwP ld rs) s = execLdwP ld rs s := rfl

theorem exec_lddP (ld : BitVec 4) (rs : Reg) (s : State) : exec (.lddP ld rs) s = execLddP ld rs s := rfl

theorem exec_stwR (ld : BitVec 4) (rs : Reg) (s : State) : exec (.stwR ld rs) s = execStwR ld rs s := rfl

theorem exec_stdR (ld : BitVec 4) (rs : Reg) (s : State) : exec (.stdR ld rs) s = execStdR ld rs s := rfl

theorem exec_stwP (ld : BitVec 4) (rs : Reg) (s : State) : exec (.stwP ld rs) s = execStwP ld rs s := rfl

theorem exec_stdP (ld : BitVec 4) (rs : Reg) (s : State) : exec (.stdP ld rs) s = execStdP ld rs s := rfl

theorem exec_setadr (rd : Reg) (s : State) : exec (.setadr rd) s = execSetadr rd s := rfl

theorem exec_fetch (k : BitVec 4) (s : State) : exec (.fetch k) s = execFetch k s := rfl

theorem exec_set1 (rd : Reg) (s : State) : exec (.set1 rd) s = execSet1 rd s := rfl

theorem exec_set0 (rd : Reg) (s : State) : exec (.set0 rd) s = execSet0 rd s := rfl

theorem exec_setle (rd : Reg) (s : State) : exec (.setle rd) s = execSetle rd s := rfl

theorem exec_setgt (rd : Reg) (s : State) : exec (.setgt rd) s = execSetgt rd s := rfl

theorem exec_setlt (rd : Reg) (s : State) : exec (.setlt rd) s = execSetlt rd s := rfl

theorem exec_setge (rd : Reg) (s : State) : exec (.setge rd) s = execSetge rd s := rfl

theorem exec_setse (rd : Reg) (s : State) : exec (.setse rd) s = execSetse rd s := rfl

theorem exec_setht (rd : Reg) (s : State) : exec (.setht rd) s = execSetht rd s := rfl

theorem exec_setst (rd : Reg) (s : State) : exec (.setst rd) s = execSetst rd s := rfl

theorem exec_sethe (rd : Reg) (s : State) : exec (.sethe rd) s = execSethe rd s := rfl

theorem exec_sete (rd : Reg) (s : State) : exec (.sete rd) s = execSete rd s := rfl

theorem exec_setne (rd : Reg) (s : State) : exec (.setne rd) s = execSetne rd s := rfl

theorem exec_setv (rd : Reg) (s : State) : exec (.setv rd) s = execSetv rd s := rfl

theorem exec_setnv (rd : Reg) (s : State) : exec (.setnv rd) s = execSetnv rd s := rfl

theorem exec_set1M (rd : Reg) (s : State) : exec (.set1M rd) s = execSet1M rd s := rfl

theorem exec_setleM (rd : Reg) (s : State) : exec (.setleM rd) s = execSetleM rd s := rfl

theorem exec_setgtM (rd : Reg) (s : State) : exec (.setgtM rd) s = execSetgtM rd s := rfl

theorem exec_setltM (rd : Reg) (s : State) : exec (.setltM rd) s = execSetltM rd s := rfl

theorem exec_setgeM (rd : Reg) (s : State) : exec (.setgeM rd) s = execSetgeM rd s := rfl

theorem exec_setseM (rd : Reg) (s : State) : exec (.setseM rd) s = execSetseM rd s := rfl

theorem exec_sethtM (rd : Reg) (s : State) : exec (.sethtM rd) s = execSethtM rd s := rfl

theorem exec_setstM (rd : Reg) (s : State) : exec (.setstM rd) s = execSetstM rd s := rfl

theorem exec_setheM (rd : Reg) (s : State) : exec (.setheM rd) s = execSetheM rd s := rfl

theorem exec_seteM (rd : Reg) (s : State) : exec (.seteM rd) s = execSeteM rd s := rfl

theorem exec_setneM (rd : Reg) (s : State) : exec (.setneM rd) s = execSetneM rd s := rfl

theorem exec_setvM (rd : Reg) (s : State) : exec (.setvM rd) s = execSetvM rd s := rfl

theorem exec_setnvM (rd : Reg) (s : State) : exec (.setnvM rd) s = execSetnvM rd s := rfl

theorem exec_fadd (ld ls : BitVec 4) (s : State) : exec (.fadd ld ls) s = execFadd ld ls s := rfl

theorem exec_faddd (ld ls : BitVec 4) (s : State) : exec (.faddd ld ls) s = execFaddd ld ls s := rfl

theorem exec_fsub (ld ls : BitVec 4) (s : State) : exec (.fsub ld ls) s = execFsub ld ls s := rfl

theorem exec_fsubd (ld ls : BitVec 4) (s : State) : exec (.fsubd ld ls) s = execFsubd ld ls s := rfl

theorem exec_fmul (ld ls : BitVec 4) (s : State) : exec (.fmul ld ls) s = execFmul ld ls s := rfl

theorem exec_fmuld (ld ls : BitVec 4) (s : State) : exec (.fmuld ld ls) s = execFmuld ld ls s := rfl

theorem exec_fdiv (ld ls : BitVec 4) (s : State) : exec (.fdiv ld ls) s = execFdiv ld ls s := rfl

theorem exec_fdivd (ld ls : BitVec 4) (s : State) : exec (.fdivd ld ls) s = execFdivd ld ls s := rfl

theorem exec_fcmp (ld ls : BitVec 4) (s : State) : exec (.fcmp ld ls) s = execFcmp ld ls s := rfl

theorem exec_fcmpd (ld ls : BitVec 4) (s : State) : exec (.fcmpd ld ls) s = execFcmpd ld ls s := rfl

theorem exec_fcmpu (ld ls : BitVec 4) (s : State) : exec (.fcmpu ld ls) s = execFcmpu ld ls s := rfl

theorem exec_fcmpud (ld ls : BitVec 4) (s : State) : exec (.fcmpud ld ls) s = execFcmpud ld ls s := rfl

theorem exec_fcvt (ld ls : BitVec 4) (s : State) : exec (.fcvt ld ls) s = execFcvt ld ls s := rfl

theorem exec_fcvtd (ld ls : BitVec 4) (s : State) : exec (.fcvtd ld ls) s = execFcvtd ld ls s := rfl

theorem exec_emul (ld ls : BitVec 4) (s : State) : exec (.emul ld ls) s = execEmul ld ls s := rfl

theorem exec_emulu (ld ls : BitVec 4) (s : State) : exec (.emulu ld ls) s = execEmulu ld ls s := rfl

theorem exec_emuls (ld ls : BitVec 4) (s : State) : exec (.emuls ld ls) s = execEmuls ld ls s := rfl

theorem exec_emac (ld ls : BitVec 4) (s : State) : exec (.emac ld ls) s = execEmac ld ls s := rfl

theorem exec_emacd (ld ls : BitVec 4) (s : State) : exec (.emacd ld ls) s = execEmacd ld ls s := rfl

theorem exec_emsub (ld ls : BitVec 4) (s : State) : exec (.emsub ld ls) s = execEmsub ld ls s := rfl

theorem exec_emsubd (ld ls : BitVec 4) (s : State) : exec (.emsubd ld ls) s = execEmsubd ld ls s := rfl

theorem exec_ehmac (ld ls : BitVec 4) (s : State) : exec (.ehmac ld ls) s = execEhmac ld ls s := rfl

theorem exec_ehmacd (ld ls : BitVec 4) (s : State) : exec (.ehmacd ld ls) s = execEhmacd ld ls s := rfl

theorem exec_ehcmuld (ld ls : BitVec 4) (s : State) : exec (.ehcmuld ld ls) s = execEhcmuld ld ls s := rfl

theorem exec_ehcmacd (ld ls : BitVec 4) (s : State) : exec (.ehcmacd ld ls) s = execEhcmacd ld ls s := rfl

theorem exec_ehcsumd (ld ls : BitVec 4) (s : State) : exec (.ehcsumd ld ls) s = execEhcsumd ld ls s := rfl

theorem exec_ehcfftd (ld ls : BitVec 4) (s : State) : exec (.ehcfftd ld ls) s = execEhcfftd ld ls s := rfl

theorem exec_ehcfftsd (ld ls : BitVec 4) (s : State) : exec (.ehcfftsd ld ls) s = execEhcfftsd ld ls s := rfl

theorem exec_softDo (ld ls : BitVec 4) (s : State) : exec (.softDo ld ls) s = execSoftDo ld ls s := rfl

theorem exec_dbv (rel : Rel) (s : State) : exec (.dbv rel) s = execDbv rel s := rfl

theorem exec_dbnv (rel : Rel) (s : State) : exec (.dbnv rel) s = execDbnv rel s := rfl

theorem exec_dbe (rel : Rel) (s : State) : exec (.dbe rel) s = execDbe rel s := rfl

theorem exec_dbne (rel : Rel) (s : State) : exec (.dbne rel) s = execDbne rel s := rfl

theorem exec_dbc (rel : Rel) (s : State) : exec (.dbc rel) s = execDbc rel s := rfl

theorem exec_dbnc (rel : Rel) (s : State) : exec (.dbnc rel) s = execDbnc rel s := rfl

theorem exec_dbse (rel : Rel) (s : State) : exec (.dbse rel) s = execDbse rel s := rfl

theorem exec_dbht (rel : Rel) (s : State) : exec (.dbht rel) s = execDbht rel s := rfl

theorem exec_dbn (rel : Rel) (s : State) : exec (.dbn rel) s = execDbn rel s := rfl

theorem exec_dbnn (rel : Rel) (s : State) : exec (.dbnn rel) s = execDbnn rel s := rfl

theorem exec_dble (rel : Rel) (s : State) : exec (.dble rel) s = execDble rel s := rfl

theorem exec_dbgt (rel : Rel) (s : State) : exec (.dbgt rel) s = execDbgt rel s := rfl

theorem exec_dbr (rel : Rel) (s : State) : exec (.dbr rel) s = execDbr rel s := rfl

theorem exec_frame (ld ls : BitVec 4) (s : State) : exec (.frame ld ls) s = execFrame ld ls s := rfl

theorem exec_call (ld : BitVec 4) (rs : Reg) (const : Const) (s : State) : exec (.call ld rs const) s = execCall ld rs const s := rfl

theorem exec_bv (rel : Rel) (s : State) : exec (.bv rel) s = execBv rel s := rfl

theorem exec_bnv (rel : Rel) (s : State) : exec (.bnv rel) s = execBnv rel s := rfl

theorem exec_be (rel : Rel) (s : State) : exec (.be rel) s = execBe rel s := rfl

theorem exec_bne (rel : Rel) (s : State) : exec (.bne rel) s = execBne rel s := rfl

theorem exec_bc (rel : Rel) (s : State) : exec (.bc rel) s = execBc rel s := rfl

theorem exec_bnc (rel : Rel) (s : State) : exec (.bnc rel) s = execBnc rel s := rfl

theorem exec_bse (rel : Rel) (s : State) : exec (.bse rel) s = execBse rel s := rfl

theorem exec_bht (rel : Rel) (s : State) : exec (.bht rel) s = execBht rel s := rfl

theorem exec_bn (rel : Rel) (s : State) : exec (.bn rel) s = execBn rel s := rfl

theorem exec_bnn (rel : Rel) (s : State) : exec (.bnn rel) s = execBnn rel s := rfl

theorem exec_ble (rel : Rel) (s : State) : exec (.ble rel) s = execBle rel s := rfl

theorem exec_bgt (rel : Rel) (s : State) : exec (.bgt rel) s = execBgt rel s := rfl

theorem exec_br (rel : Rel) (s : State) : exec (.br rel) s = execBr rel s := rfl

theorem exec_traple (trapno : BitVec 6) (s : State) : exec (.traple trapno) s = execTraple trapno s := rfl

theorem exec_trapgt (trapno : BitVec 6) (s : State) : exec (.trapgt trapno) s = execTrapgt trapno s := rfl

theorem exec_traplt (trapno : BitVec 6) (s : State) : exec (.traplt trapno) s = execTraplt trapno s := rfl

theorem exec_trapge (trapno : BitVec 6) (s : State) : exec (.trapge trapno) s = execTrapge trapno s := rfl

theorem exec_trapse (trapno : BitVec 6) (s : State) : exec (.trapse trapno) s = execTrapse trapno s := rfl

theorem exec_trapht (trapno : BitVec 6) (s : State) : exec (.trapht trapno) s = execTrapht trapno s := rfl

theorem exec_trapst (trapno : BitVec 6) (s : State) : exec (.trapst trapno) s = execTrapst trapno s := rfl

theorem exec_traphe (trapno : BitVec 6) (s : State) : exec (.traphe trapno) s = execTraphe trapno s := rfl

theorem exec_trape (trapno : BitVec 6) (s : State) : exec (.trape trapno) s = execTrape trapno s := rfl

theorem exec_trapne (trapno : BitVec 6) (s : State) : exec (.trapne trapno) s = execTrapne trapno s := rfl

theorem exec_trapv (trapno : BitVec 6) (s : State) : exec (.trapv trapno) s = execTrapv trapno s := rfl

theorem exec_trap (trapno : BitVec 6) (s : State) : exec (.trap trapno) s = execTrap trapno s := rfl

end Sys2Proof.Machine
end

