-- ==== Sys2Proof/Tests/Slice0.lean ====
section
/-! SUPPORT. Tests/Slice0.lean: words written out from the encodings of spec/30 and the rule pages; ill-formed terms; single steps whose expected
results are those of spec/95_test_vectors.md and of the examples in the rules; and, for every statement with hypotheses, a case that meets
them. -/

section

set_option Elab.async false

open Sys2Proof Sys2Proof.Machine

/-! ## Decoding: for every constructor a word -/

/-- spec/40, format RRdis. -/
theorem test_decode_memory_RRdis_1 :
  decode 0b1001_0011_1100_1100 0xCBDB 0x8D7B = .ok (.ldbsD (.l 12) (.l 12) (.long 0x1BDB8D7B)) ∧
  decode 0b1001_0000_0001_1010 0x8899 0x3412 = .ok (.ldbsA (.g 10) (.long 0x8993412)) ∧
  decode 0b1001_0010_1010_0010 0x9556 0xDAAA = .ok (.ldbuD (.l 10) (.g 2) (.long 0x556DAAA)) ∧
  decode 0b1001_0001_0001_1011 0x1142 0x0000 = .ok (.ldbuA (.l 11) (.short 0x142)) ∧
  decode 0b1001_0011_1000_0000 0x27DA 0x0000 = .ok (.ldhuD (.l 8) (.l 0) (.short 0x3ED)) ∧
  decode 0b1001_0000_0001_0100 0x6E70 0x0000 = .ok (.ldhuA (.g 4) (.short 0xF38)) ∧
  decode 0b1001_0010_0110_1001 0xE84D 0x7509 = .ok (.ldhsD (.l 6) (.g 9) (.long 0xC26BA84)) ∧
  decode 0b1001_0001_0001_1111 0xE50B 0x1BA1 = .ok (.ldhsA (.l 15) (.long 0xA858DD0)) ∧
  decode 0b1001_0011_0100_0100 0xF1C8 0xC238 = .ok (.ldwD (.l 4) (.l 4) (.long 0x472308E)) ∧
  decode 0b1001_0000_0001_1011 0x38D0 0x0000 = .ok (.ldwA (.g 11) (.short 0x234)) ∧
  decode 0b1001_0010_0010_0011 0x3F69 0x0000 = .ok (.lddD (.l 2) (.g 3) (.short 0x3DA)) ∧
  decode 0b1001_0001_0001_0011 0x35FD 0x0000 = .ok (.lddA (.l 3) (.short 0x17F)) ∧
  decode 0b1001_0011_0000_1000 0xB4BF 0x5C96 = .ok (.ldwIod (.l 0) (.l 8) (.long 0x12FD725)) ∧
  decode 0b1001_0000_0001_0101 0xF17D 0x032E = .ok (.ldwIoa (.g 5) (.long 0x45F40CB)) ∧
  decode 0b1001_0010_1110_1010 0xFE3A 0xA9C7 = .ok (.lddIod (.l 14) (.g 10) (.long 0x78EAA71)) ∧
  decode 0b1001_0001_0001_0111 0x705F 0x0000 = .ok (.lddIoa (.l 7) (.short 0x417)) := by
  decide +kernel

/-- spec/40, format RRdis. -/
theorem test_decode_memory_RRdis_2 :
  decode 0b1001_0111_1100_1100 0x46F6 0x0000 = .ok (.ldbsN (.l 12) (.l 12) (.short 0x16F6)) ∧
  decode 0b1001_0100_0010_1100 0x1D8E 0x0000 = .ok (.ldbuN (.g 2) (.g 12) (.short 0xD8E)) ∧
  decode 0b1001_0110_1010_0100 0xA131 0x4424 = .ok (.ldhuN (.l 10) (.g 4) (.long 0x98A212)) ∧
  decode 0b1001_0101_1000_1011 0xADEE 0xEABD = .ok (.ldhsN (.g 8) (.l 11) (.long 0x6F7755E)) ∧
  decode 0b1001_0111_1000_0000 0xBAAC 0x9154 = .ok (.ldwN (.l 8) (.l 0) (.long 0x2AB2455)) ∧
  decode 0b1001_0100_0010_0110 0x77ED 0x0000 = .ok (.lddN (.g 2) (.g 6) (.short 0x5FB)) ∧
  decode 0b1001_0110_0110_1011 0x7E87 0x0000 = .ok (.ldwS (.l 6) (.g 11) (.short 0x7A1)) ∧
  decode 0b1001_1001_1000_1111 0x451C 0x0000 = .ok (.stbsD (.g 8) (.l 15) (.short 0x151C)) ∧
  decode 0b1001_1001_0001_0100 0xCDA3 0x2BB4 = .ok (.stbsA (.l 4) (.long 0x1DA32BB4)) ∧
  decode 0b1001_1000_0010_1101 0x9A60 0xD24B = .ok (.stbuD (.g 2) (.g 13) (.long 0xA60D24B)) ∧
  decode 0b1001_1000_0001_0101 0x971E 0x78E3 = .ok (.stbuA (.g 5) (.long 0x71E78E3)) ∧
  decode 0b1001_1001_1000_0011 0x2F7A 0x0000 = .ok (.sthuD (.g 8) (.l 3) (.short 0x7BD)) ∧
  decode 0b1001_1001_0001_1000 0x2612 0x0000 = .ok (.sthuA (.l 8) (.short 0x309)) ∧
  decode 0b1001_1000_0010_0111 0x6CAB 0x0000 = .ok (.sthsD (.g 2) (.g 7) (.short 0xE55)) ∧
  decode 0b1001_1000_0001_1100 0xEA15 0x1343 = .ok (.sthsA (.g 12) (.long 0xD0A89A1)) ∧
  decode 0b1001_1001_1000_0111 0xF6D2 0xB9D8 = .ok (.stwD (.g 8) (.l 7) (.long 0x5B4AE76)) := by
  decide +kernel

/-- spec/40, format RRdis. -/
theorem test_decode_memory_RRdis_3 :
  decode 0b1001_1001_0001_1100 0xF390 0x6070 = .ok (.stwA (.l 12) (.long 0x4E4181C)) ∧
  decode 0b1001_1000_0010_1110 0x3709 0x0000 = .ok (.stdD (.g 2) (.g 14) (.short 0x1C2)) ∧
  decode 0b1001_1000_0001_0110 0x3DA1 0x0000 = .ok (.stdA (.g 6) (.short 0x368)) ∧
  decode 0b1001_1001_1000_1011 0x343A 0x0000 = .ok (.stwIod (.g 8) (.l 11) (.short 0x10E)) ∧
  decode 0b1001_1001_0001_0000 0xB686 0xFAD2 = .ok (.stwIoa (.l 0) (.long 0x1A1BEB4)) ∧
  decode 0b1001_1000_0010_1000 0xF344 0xA16B = .ok (.stdIod (.g 2) (.g 8) (.long 0x4D1285A)) ∧
  decode 0b1001_1000_0001_1101 0xF002 0x47FF = .ok (.stdIoa (.g 13) (.long 0x40091FF)) ∧
  decode 0b1001_1101_1000_1111 0x4E97 0x0000 = .ok (.stbsN (.g 8) (.l 15) (.short 0x1E97)) ∧
  decode 0b1001_1111_0100_0100 0x552F 0x0000 = .ok (.stbuN (.l 4) (.l 4) (.short 0x152F)) ∧
  decode 0b1001_1100_0010_0010 0x2BC6 0x0000 = .ok (.sthuN (.g 2) (.g 2) (.short 0x5E3)) ∧
  decode 0b1001_1110_0010_0111 0xA2F8 0xE25F = .ok (.sthsN (.l 2) (.g 7) (.long 0x17C712F)) ∧
  decode 0b1001_1101_1000_0011 0xBFB6 0x88F4 = .ok (.stwN (.g 8) (.l 3) (.long 0x3EDA23D)) ∧
  decode 0b1001_1111_0000_1000 0xBC74 0x2F8D = .ok (.stdN (.l 0) (.l 8) (.long 0x31D0BE3)) ∧
  decode 0b1001_1100_0010_1001 0x7627 0x0000 = .ok (.stwS (.g 2) (.g 9) (.short 0x589)) := by
  decide +kernel

/-- spec/40, format LR. -/
theorem test_decode_memory_LR :
  decode 0b1101_0000_1110_1110 0x0000 0x0000 = .ok (.ldwR 14 (.g 14)) ∧
  decode 0b1101_0011_0101_0111 0x0000 0x0000 = .ok (.lddR 5 (.l 7)) ∧
  decode 0b1101_0101_1100_1100 0x0000 0x0000 = .ok (.ldwP 12 (.l 12)) ∧
  decode 0b1101_0110_0011_0011 0x0000 0x0000 = .ok (.lddP 3 (.g 3)) ∧
  decode 0b1101_1000_1010_1000 0x0000 0x0000 = .ok (.stwR 10 (.g 8)) ∧
  decode 0b1101_1011_0001_1011 0x0000 0x0000 = .ok (.stdR 1 (.l 11)) ∧
  decode 0b1101_1101_1000_0000 0x0000 0x0000 = .ok (.stwP 8 (.l 0)) ∧
  decode 0b1101_1110_1111_1010 0x0000 0x0000 = .ok (.stdP 15 (.g 10)) := by
  decide +kernel

/-- spec/41, format RR. -/
theorem test_decode_move_logical_RR :
  decode 0b0010_0100_0010_1001 0x0000 0x0000 = .ok (.mov (.g 2) (.g 9)) ∧
  decode 0b0011_0100_0010_0011 0x0000 0x0000 = .ok (.andn (.g 2) (.g 3)) ∧
  decode 0b0011_1010_0010_1000 0x0000 0x0000 = .ok (.or (.l 2) (.g 8)) ∧
  decode 0b0011_1101_1000_0011 0x0000 0x0000 = .ok (.xor (.g 8) (.l 3)) ∧
  decode 0b0100_0100_0010_1010 0x0000 0x0000 = .ok (.not (.g 2) (.g 10)) ∧
  decode 0b0101_0100_0010_0100 0x0000 0x0000 = .ok (.and (.g 2) (.g 4)) ∧
  decode 0b0000_0110_0010_1010 0x0000 0x0000 = .ok (.movd (.l 2) (.g 10)) := by
  decide +kernel

/-- spec/41, format RRconst. -/
theorem test_decode_move_logical_RRconst :
  decode 0b0001_0111_1000_0000 0x971D 0x54E3 = .ok (.mask (.l 8) (.l 0) (.long 0x171D54E3)) := by
  decide +kernel

/-- spec/41, format Rimm. -/
theorem test_decode_move_logical_Rimm :
  decode 0b0110_0110_0100_0101 0x0000 0x0000 = .ok (.movi (.l 4) (.short 5)) ∧
  decode 0b0111_0111_0000_0010 0x89A1 0x0000 = .ok (.andni (.l 0) (.low 0x89A1)) ∧
  decode 0b0111_1001_0010_0011 0x3038 0x0000 = .ok (.ori (.g 2) (.high 0x3038)) ∧
  decode 0b0111_1110_1110_0101 0x0000 0x0000 = .ok (.xori (.l 14) (.short 5)) := by
  decide +kernel

/-- spec/42, format RR. -/
theorem test_decode_arithmetic_RR :
  decode 0b0000_1010_1010_0111 0x0000 0x0000 = .ok (.divu (.l 10) (.g 7)) ∧
  decode 0b0000_1101_1000_1011 0x0000 0x0000 = .ok (.divs (.g 8) (.l 11)) ∧
  decode 0b0010_1010_0110_1110 0x0000 0x0000 = .ok (.add (.l 6) (.g 14)) ∧
  decode 0b0010_1101_1000_1111 0x0000 0x0000 = .ok (.adds (.g 8) (.l 15)) ∧
  decode 0b0100_0011_0000_1000 0x0000 0x0000 = .ok (.subc (.l 0) (.l 8)) ∧
  decode 0b0100_1010_1110_0010 0x0000 0x0000 = .ok (.sub (.l 14) (.g 2)) ∧
  decode 0b0100_1101_1000_0111 0x0000 0x0000 = .ok (.subs (.g 8) (.l 7)) ∧
  decode 0b0101_0011_1100_1100 0x0000 0x0000 = .ok (.addc (.l 12) (.l 12)) ∧
  decode 0b0101_1010_1010_1001 0x0000 0x0000 = .ok (.neg (.l 10) (.g 9)) ∧
  decode 0b0101_1101_1000_1011 0x0000 0x0000 = .ok (.negs (.g 8) (.l 11)) ∧
  decode 0b1011_0011_1000_0000 0x0000 0x0000 = .ok (.mulu (.l 8) (.l 0)) ∧
  decode 0b1011_0100_0010_1011 0x0000 0x0000 = .ok (.muls (.g 2) (.g 11)) ∧
  decode 0b1011_1110_0110_0011 0x0000 0x0000 = .ok (.mul (.l 6) (.g 3)) := by
  decide +kernel

/-- spec/42, format RRconst. -/
theorem test_decode_arithmetic_RRconst :
  decode 0b0001_1000_0010_1101 0x7B7B 0x0000 = .ok (.sum (.g 2) (.g 13) (.short 0x7B7B)) ∧
  decode 0b0001_1110_0110_0101 0x6212 0x0000 = .ok (.sums (.l 6) (.g 5) (.short 0x6212)) := by
  decide +kernel

/-- spec/42, format Rimm. -/
theorem test_decode_arithmetic_Rimm :
  decode 0b0110_1001_0010_1111 0x0000 0x0000 = .ok (.addi (.g 2) (.short 31)) ∧
  decode 0b0110_1111_0010_1000 0x0000 0x0000 = .ok (.addsi (.l 2) (.short 24)) ∧
  decode 0b0110_1000_1000_0000 0x0000 0x0000 = .ok (.addiCz (.g 8)) ∧
  decode 0b0110_1110_1100_0000 0x0000 0x0000 = .ok (.addsiCz (.l 12)) := by
  decide +kernel

/-- spec/43, format Ln. -/
theorem test_decode_shift_Ln :
  decode 0b1000_0001_1010_0001 0x0000 0x0000 = .ok (.shrdi 10 17) ∧
  decode 0b1000_0101_1111_0001 0x0000 0x0000 = .ok (.sardi 15 17) ∧
  decode 0b1000_1001_0100_0001 0x0000 0x0000 = .ok (.shldi 4 17) := by
  decide +kernel

/-- spec/43, format LL. -/
theorem test_decode_shift_LL :
  decode 0b1000_0010_0001_1011 0x0000 0x0000 = .ok (.shrd 1 11) ∧
  decode 0b1000_0011_1000_0000 0x0000 0x0000 = .ok (.shr 8 0) ∧
  decode 0b1000_0110_0110_1010 0x0000 0x0000 = .ok (.sard 6 10) ∧
  decode 0b1000_0111_1101_1111 0x0000 0x0000 = .ok (.sar 13 15) ∧
  decode 0b1000_1010_1011_1001 0x0000 0x0000 = .ok (.shld 11 9) ∧
  decode 0b1000_1011_0010_1110 0x0000 0x0000 = .ok (.shl 2 14) ∧
  decode 0b1000_1111_0000_1000 0x0000 0x0000 = .ok (.rol 0 8) := by
  decide +kernel

/-- spec/43, format Rn. -/
theorem test_decode_shift_Rn :
  decode 0b1010_0000_0010_0011 0x0000 0x0000 = .ok (.shri (.g 2) 3) ∧
  decode 0b1010_0111_1110_0000 0x0000 0x0000 = .ok (.sari (.l 14) 16) ∧
  decode 0b1010_1001_1000_0101 0x0000 0x0000 = .ok (.shli (.g 8) 21) := by
  decide +kernel

/-- spec/44, format RR. -/
theorem test_decode_index_check_compare_set_RR :
  decode 0b0010_0011_1000_0000 0x0000 0x0000 = .ok (.cmp (.l 8) (.l 0)) ∧
  decode 0b0011_0011_0100_0100 0x0000 0x0000 = .ok (.cmpb (.l 4) (.l 4)) ∧
  decode 0b0000_0001_1000_1111 0x0000 0x0000 = .ok (.chk (.g 8) (.l 15)) ∧
  decode 0b0000_0010_0100_0001 0x0000 0x0000 = .ok (.chkz (.l 4)) ∧
  decode 0b0000_0011_0000_0000 0x0000 0x0000 = .ok .nop := by
  decide +kernel

/-- spec/44, format RRlim. -/
theorem test_decode_index_check_compare_set_RRlim :
  decode 0b0001_0011_0000_1000 0x8130 0x2025 = .ok (.xm1 (.l 0) (.l 8) (.long 0x1302025)) ∧
  decode 0b0001_0000_0010_1100 0x9DED 0xC6BD = .ok (.xm2 (.g 2) (.g 12) (.long 0xDEDC6BD)) ∧
  decode 0b0001_0010_1110_0100 0xAAAB 0x6D55 = .ok (.xm4 (.l 14) (.g 4) (.long 0xAAB6D55)) ∧
  decode 0b0001_0001_1000_0111 0x33ED 0x0000 = .ok (.xm8 (.g 8) (.l 7) (.short 0x3ED)) ∧
  decode 0b0001_0011_1100_1100 0x4A84 0x0000 = .ok (.xx1 (.l 12) (.l 12) (.short 0xA84)) ∧
  decode 0b0001_0000_0010_0110 0x511C 0x0000 = .ok (.xx2 (.g 2) (.g 6) (.short 0x11C)) ∧
  decode 0b0001_0010_1010_1011 0xEDA2 0x07B4 = .ok (.xx4 (.l 10) (.g 11) (.long 0xDA207B4)) ∧
  decode 0b0001_0001_1000_1011 0xFA5F 0xAE4B = .ok (.xx8 (.g 8) (.l 11) (.long 0xA5FAE4B)) := by
  decide +kernel

/-- spec/44, format Rimm. -/
theorem test_decode_index_check_compare_set_Rimm :
  decode 0b0110_0001_1000_0011 0x48AA 0x0000 = .ok (.cmpi (.g 8) (.high 0x48AA)) ∧
  decode 0b0111_0001_1000_0001 0x704C 0xE309 = .ok (.cmpbi (.g 8) (.word 0x704CE309)) ∧
  decode 0b0111_0000_0010_0000 0x0000 0x0000 = .ok (.cmpbiAnybz (.g 2)) := by
  decide +kernel

/-- spec/44, format LL. -/
theorem test_decode_index_check_compare_set_LL :
  decode 0b1000_1110_1001_0011 0x0000 0x0000 = .ok (.testlz 9 3) := by
  decide +kernel

/-- spec/44, format Rn. -/
theorem test_decode_index_check_compare_set_Rn_1 :
  decode 0b1011_1010_0110_0000 0x0000 0x0000 = .ok (.setadr (.l 6)) ∧
  decode 0b1011_1010_0100_0010 0x0000 0x0000 = .ok (.set1 (.l 4)) ∧
  decode 0b1011_1000_0010_0011 0x0000 0x0000 = .ok (.set0 (.g 2)) ∧
  decode 0b1011_1010_0010_0100 0x0000 0x0000 = .ok (.setle (.l 2)) ∧
  decode 0b1011_1000_1000_0101 0x0000 0x0000 = .ok (.setgt (.g 8)) ∧
  decode 0b1011_1010_0000_0110 0x0000 0x0000 = .ok (.setlt (.l 0)) ∧
  decode 0b1011_1000_0010_0111 0x0000 0x0000 = .ok (.setge (.g 2)) ∧
  decode 0b1011_1010_1110_1000 0x0000 0x0000 = .ok (.setse (.l 14)) ∧
  decode 0b1011_1000_1000_1001 0x0000 0x0000 = .ok (.setht (.g 8)) ∧
  decode 0b1011_1010_1100_1010 0x0000 0x0000 = .ok (.setst (.l 12)) ∧
  decode 0b1011_1000_0010_1011 0x0000 0x0000 = .ok (.sethe (.g 2)) ∧
  decode 0b1011_1010_1010_1100 0x0000 0x0000 = .ok (.sete (.l 10)) ∧
  decode 0b1011_1000_1000_1101 0x0000 0x0000 = .ok (.setne (.g 8)) ∧
  decode 0b1011_1010_1000_1110 0x0000 0x0000 = .ok (.setv (.l 8)) ∧
  decode 0b1011_1000_0010_1111 0x0000 0x0000 = .ok (.setnv (.g 2)) ∧
  decode 0b1011_1011_0110_0010 0x0000 0x0000 = .ok (.set1M (.l 6)) := by
  decide +kernel

/-- spec/44, format Rn. -/
theorem test_decode_index_check_compare_set_Rn_2 :
  decode 0b1011_1001_1000_0100 0x0000 0x0000 = .ok (.setleM (.g 8)) ∧
  decode 0b1011_1011_0100_0101 0x0000 0x0000 = .ok (.setgtM (.l 4)) ∧
  decode 0b1011_1001_0010_0110 0x0000 0x0000 = .ok (.setltM (.g 2)) ∧
  decode 0b1011_1011_0010_0111 0x0000 0x0000 = .ok (.setgeM (.l 2)) ∧
  decode 0b1011_1001_1000_1000 0x0000 0x0000 = .ok (.setseM (.g 8)) ∧
  decode 0b1011_1011_0000_1001 0x0000 0x0000 = .ok (.sethtM (.l 0)) ∧
  decode 0b1011_1001_0010_1010 0x0000 0x0000 = .ok (.setstM (.g 2)) ∧
  decode 0b1011_1011_1110_1011 0x0000 0x0000 = .ok (.setheM (.l 14)) ∧
  decode 0b1011_1001_1000_1100 0x0000 0x0000 = .ok (.seteM (.g 8)) ∧
  decode 0b1011_1011_1100_1101 0x0000 0x0000 = .ok (.setneM (.l 12)) ∧
  decode 0b1011_1001_0010_1110 0x0000 0x0000 = .ok (.setvM (.g 2)) ∧
  decode 0b1011_1011_1010_1111 0x0000 0x0000 = .ok (.setnvM (.l 10)) := by
  decide +kernel

/-- spec/45, format RR. -/
theorem test_decode_control_flow_RR :
  decode 0b0000_0101_0000_0011 0x0000 0x0000 = .ok (.ret (.l 3)) := by
  decide +kernel

/-- spec/45, format Rn. -/
theorem test_decode_control_flow_Rn :
  decode 0b1011_1000_0001_1000 0x0000 0x0000 = .ok (.fetch 4) := by
  decide +kernel

/-- spec/45, format PCrel. -/
theorem test_decode_control_flow_PCrel_1 :
  decode 0b1110_0000_0011_0011 0x0000 0x0000 = .ok (.dbv (.short 0x59)) ∧
  decode 0b1110_0001_0110_0010 0x0000 0x0000 = .ok (.dbnv (.short 0x31)) ∧
  decode 0b1110_0010_1000_1001 0x7A12 0x0000 = .ok (.dbe (.long 0x4BD09)) ∧
  decode 0b1110_0011_1010_0001 0xC742 0x0000 = .ok (.dbne (.long 0x10E3A1)) ∧
  decode 0b1110_0100_1011_1000 0x1470 0x0000 = .ok (.dbc (.long 0x1C0A38)) ∧
  decode 0b1110_0101_0010_0001 0x0000 0x0000 = .ok (.dbnc (.short 0x50)) ∧
  decode 0b1110_0110_0101_0001 0x0000 0x0000 = .ok (.dbse (.short 0x68)) ∧
  decode 0b1110_0111_0111_1111 0x0000 0x0000 = .ok (.dbht (.short 0x7F)) ∧
  decode 0b1110_1000_1001_0111 0x492F 0x0000 = .ok (.dbn (.long 0x4BA497)) ∧
  decode 0b1110_1001_1010_1111 0x965E 0x0000 = .ok (.dbnn (.long 0x17CB2F)) ∧
  decode 0b1110_1010_1100_0111 0xE38E 0x0000 = .ok (.dble (.long 0x23F1C7)) ∧
  decode 0b1110_1011_0011_1100 0x0000 0x0000 = .ok (.dbgt (.short 0x1E)) ∧
  decode 0b1110_1100_0110_1100 0x0000 0x0000 = .ok (.dbr (.short 0x36)) ∧
  decode 0b1111_0000_1011_1101 0x657B 0x0000 = .ok (.bv (.long 0x5EB2BD)) ∧
  decode 0b1111_0001_1101_0101 0xB2AB 0x0000 = .ok (.bnv (.long 0x6AD955)) ∧
  decode 0b1111_0010_0101_1000 0x0000 0x0000 = .ok (.be (.short 0x2C)) := by
  decide +kernel

/-- spec/45, format PCrel. -/
theorem test_decode_control_flow_PCrel_2 :
  decode 0b1111_0011_0000_1000 0x0000 0x0000 = .ok (.bne (.short 0x4)) ∧
  decode 0b1111_0100_0011_1000 0x0000 0x0000 = .ok (.bc (.short 0x1C)) ∧
  decode 0b1111_0101_1011_0100 0xE768 0x0000 = .ok (.bnc (.long 0x1A73B4)) ∧
  decode 0b1111_0110_1100_1011 0x3497 0x0000 = .ok (.bse (.long 0x659A4B)) ∧
  decode 0b1111_0111_1110_0011 0x81C7 0x0000 = .ok (.bht (.long 0x71C0E3)) ∧
  decode 0b1111_1000_0111_0111 0x0000 0x0000 = .ok (.bn (.short 0x7B)) ∧
  decode 0b1111_1001_0010_0101 0x0000 0x0000 = .ok (.bnn (.short 0x52)) ∧
  decode 0b1111_1010_0101_0100 0x0000 0x0000 = .ok (.ble (.short 0x2A)) ∧
  decode 0b1111_1011_1100_0010 0xB684 0x0000 = .ok (.bgt (.long 0x215B42)) ∧
  decode 0b1111_1100_1101_1001 0x03B2 0x0000 = .ok (.br (.long 0x2C81D9)) := by
  decide +kernel

/-- spec/45, format LL. -/
theorem test_decode_control_flow_LL :
  decode 0b1110_1101_0111_1101 0x0000 0x0000 = .ok (.frame 7 13) := by
  decide +kernel

/-- spec/45, format LRconst. -/
theorem test_decode_control_flow_LRconst :
  decode 0b1110_1110_1110_1011 0xC133 0x8C25 = .ok (.call 14 (.g 11) (.long 0x41338C25)) := by
  decide +kernel

/-- spec/45, format PCadr. -/
theorem test_decode_control_flow_PCadr :
  decode 0b1111_1101_1110_0100 0x0000 0x0000 = .ok (.traple 57) ∧
  decode 0b1111_1101_0001_0001 0x0000 0x0000 = .ok (.trapgt 4) ∧
  decode 0b1111_1101_0011_1110 0x0000 0x0000 = .ok (.traplt 15) ∧
  decode 0b1111_1101_0110_1011 0x0000 0x0000 = .ok (.trapge 26) ∧
  decode 0b1111_1110_1001_0100 0x0000 0x0000 = .ok (.trapse 37) ∧
  decode 0b1111_1110_1100_0001 0x0000 0x0000 = .ok (.trapht 48) ∧
  decode 0b1111_1110_1110_1110 0x0000 0x0000 = .ok (.trapst 59) ∧
  decode 0b1111_1110_0001_1011 0x0000 0x0000 = .ok (.traphe 6) ∧
  decode 0b1111_1111_0100_0100 0x0000 0x0000 = .ok (.trape 17) ∧
  decode 0b1111_1111_0111_0001 0x0000 0x0000 = .ok (.trapne 28) ∧
  decode 0b1111_1111_1001_1110 0x0000 0x0000 = .ok (.trapv 39) ∧
  decode 0b1111_1111_1100_1011 0x0000 0x0000 = .ok (.trap 50) := by
  decide +kernel

/-- spec/46, format LLext. -/
theorem test_decode_extended_dsp_LLext :
  decode 0b1100_1110_0011_0001 0x0102 0x0000 = .ok (.emul 3 1) ∧
  decode 0b1100_1110_1010_0110 0x0104 0x0000 = .ok (.emulu 10 6) ∧
  decode 0b1100_1110_0001_1011 0x0106 0x0000 = .ok (.emuls 1 11) ∧
  decode 0b1100_1110_1000_0000 0x010A 0x0000 = .ok (.emac 8 0) ∧
  decode 0b1100_1110_1111_0101 0x010E 0x0000 = .ok (.emacd 15 5) ∧
  decode 0b1100_1110_0110_1010 0x011A 0x0000 = .ok (.emsub 6 10) ∧
  decode 0b1100_1110_1101_1111 0x011E 0x0000 = .ok (.emsubd 13 15) ∧
  decode 0b1100_1110_0100_0100 0x002A 0x0000 = .ok (.ehmac 4 4) ∧
  decode 0b1100_1110_1011_1001 0x002E 0x0000 = .ok (.ehmacd 11 9) ∧
  decode 0b1100_1110_0010_1110 0x0046 0x0000 = .ok (.ehcmuld 2 14) ∧
  decode 0b1100_1110_1001_0011 0x004E 0x0000 = .ok (.ehcmacd 9 3) ∧
  decode 0b1100_1110_0000_1000 0x0086 0x0000 = .ok (.ehcsumd 0 8) ∧
  decode 0b1100_1110_0111_1101 0x0096 0x0000 = .ok (.ehcfftd 7 13) ∧
  decode 0b1100_1110_1110_0010 0x0296 0x0000 = .ok (.ehcfftsd 14 2) := by
  decide +kernel

/-- spec/47, format LL. -/
theorem test_decode_software_LL :
  decode 0b1100_0000_0001_1011 0x0000 0x0000 = .ok (.fadd 1 11) ∧
  decode 0b1100_0001_1000_0000 0x0000 0x0000 = .ok (.faddd 8 0) ∧
  decode 0b1100_0010_1111_0101 0x0000 0x0000 = .ok (.fsub 15 5) ∧
  decode 0b1100_0011_0110_1010 0x0000 0x0000 = .ok (.fsubd 6 10) ∧
  decode 0b1100_0100_1101_1111 0x0000 0x0000 = .ok (.fmul 13 15) ∧
  decode 0b1100_0101_0100_0100 0x0000 0x0000 = .ok (.fmuld 4 4) ∧
  decode 0b1100_0110_1011_1001 0x0000 0x0000 = .ok (.fdiv 11 9) ∧
  decode 0b1100_0111_0010_1110 0x0000 0x0000 = .ok (.fdivd 2 14) ∧
  decode 0b1100_1000_1001_0011 0x0000 0x0000 = .ok (.fcmp 9 3) ∧
  decode 0b1100_1001_0000_1000 0x0000 0x0000 = .ok (.fcmpd 0 8) ∧
  decode 0b1100_1010_0111_1101 0x0000 0x0000 = .ok (.fcmpu 7 13) ∧
  decode 0b1100_1011_1110_0010 0x0000 0x0000 = .ok (.fcmpud 14 2) ∧
  decode 0b1100_1100_0101_0111 0x0000 0x0000 = .ok (.fcvt 5 7) ∧
  decode 0b1100_1101_1100_1100 0x0000 0x0000 = .ok (.fcvtd 12 12) ∧
  decode 0b1100_1111_0101_0111 0x0000 0x0000 = .ok (.softDo 5 7) := by
  decide +kernel
/-! ## Ill-formed terms are refused -/

/-- n = 17, 18 and 19 are spelled by the other forms of an immediate. -/
theorem test_illformed_immediate :
    (Instr.movi (.l 0) (.short 17)).wellFormed = false ∧ (Instr.ori (.l 0) (.short 18)).wellFormed = false ∧
    (Instr.cmpi (.l 0) (.short 19)).wellFormed = false ∧ (Instr.movi (.l 0) (.short 20)).wellFormed = true := by decide

/-- n = 0 is another instruction: CZ or ANYBZ. -/
theorem test_illformed_zero_form :
    (Instr.addi (.l 0) (.short 0)).wellFormed = false ∧ (Instr.addsi (.l 0) (.short 0)).wellFormed = false ∧
    (Instr.cmpbi (.l 0) (.short 0)).wellFormed = false ∧ (Instr.movi (.l 0) (.short 0)).wellFormed = true := by decide

/-- CHK with the SR as source is CHKZ, with L0, L0 it is NOP. -/
theorem test_illformed_check :
    (Instr.chk (.l 1) (.g 1)).wellFormed = false ∧ (Instr.chk (.l 0) (.l 0)).wellFormed = false ∧
    (Instr.chk (.l 0) (.g 0)).wellFormed = true := by decide

/-- MOVD to the PC is RET, and RET has neither PC nor SR as source. -/
theorem test_illformed_return :
    (Instr.movd (.g 0) (.l 1)).wellFormed = false ∧ (Instr.ret (.g 0)).wellFormed = false ∧ (Instr.ret (.g 1)).wellFormed = false ∧
    (Instr.ret (.g 2)).wellFormed = true := by decide

/-- XMx and XXx: neither PC nor SR as destination, no SR as source. -/
theorem test_illformed_index :
    (Instr.xm1 (.g 0) (.l 1) (.short 0)).wellFormed = false ∧ (Instr.xx8 (.g 1) (.l 1) (.short 0)).wellFormed = false ∧
    (Instr.xm4 (.l 0) (.g 1) (.short 0)).wellFormed = false ∧ (Instr.xm4 (.l 0) (.g 0) (.short 0)).wellFormed = true := by decide

/-- The SR code as address register is the absolute mode. -/
theorem test_illformed_displacement :
    (Instr.ldwD (.g 1) (.l 1) (.short 0)).wellFormed = false ∧ (Instr.stwIod (.g 1) (.l 1) (.short 0)).wellFormed = false ∧
    (Instr.ldwD (.g 0) (.l 1) (.short 0)).wellFormed = true := by decide

/-- The next-address and stack modes write the address register, which is neither PC nor SR. -/
theorem test_illformed_next :
    (Instr.ldbsN (.g 0) (.l 1) (.short 0)).wellFormed = false ∧ (Instr.stdN (.g 1) (.l 1) (.short 0)).wellFormed = false ∧
    (Instr.ldwS (.g 0) (.l 1) (.short 0)).wellFormed = false ∧ (Instr.stwS (.g 2) (.l 1) (.short 0)).wellFormed = true := by decide

/-- SETxx and SETADR write neither PC nor SR. -/
theorem test_illformed_set :
    (Instr.sete (.g 0)).wellFormed = false ∧ (Instr.setadr (.g 1)).wellFormed = false ∧ (Instr.set0 (.g 2)).wellFormed = true := by decide

/-! ## Single steps -/

/-- The state of the examples: code at 3100, SP = 8000, UB = 9000; local registers by absolute number. -/
def Tests.start (sr : Word) (locals : List (Nat × Word)) (code : List Half) : State :=
  ({ State.reset with
    pc := 0x3100, sr := StatusReg.ofWord sr, sp := 0x8000, ub := 0x9000, cache := Cache.reset.restart 0x3100
    locals := Vector.ofFn fun i => (locals.lookup i.val).getD 0 } : State).placeBytes 0x3100
      (code.flatMap fun h => [h.extractLsb' 8 8, h.extractLsb' 0 8])


/-- With the eight bytes of the examples of spec/40 at 1000. -/
def Tests.withData (s : State) : State := s.placeBytes 0x1000 [0x12, 0xB4, 0xF6, 0x78, 0x80, 0x01, 0xFF, 0x7F]

/-- The step answers a next state of which `f` holds. -/
def Tests.goes (s : State) (f : State → Bool) : Bool :=
  match step s with
  | .next t => f t
  | _ => false

/-- An error exception was taken into the frame above one of length 4. -/
def Tests.raised (t : State) : Bool := t.pc == 0xFFFFFFF0 && t.sr.fl == 2 && t.sr.l && t.sr.s && t.sr.fp == 4

open Tests

theorem test_ADD : goes (start 0x00800000 [(0, 0x7FFFFFFF), (1, 0x1)] [0x2B01])
    (fun t => t.locals[0] == 0x80000000 && !t.sr.z && t.sr.n && t.sr.v && !t.sr.c && t.pc == 0x3102) = true := by decide +kernel

theorem test_ADD_again : goes (start 0x00800000 [(0, 0xFFFFFFFF), (1, 0x1)] [0x2B01])
    (fun t => t.locals[0] == 0x0 && t.sr.z && !t.sr.n && !t.sr.v && t.sr.c && t.pc == 0x3102) = true := by decide +kernel

theorem test_ADD_carry : goes (start 0x00800001 [(0, 0x5)] [0x2A01])
    (fun t => t.locals[0] == 0x6 && !t.sr.z && !t.sr.n && !t.sr.v && !t.sr.c && t.pc == 0x3102) = true := by decide +kernel

theorem test_ADDS : goes (start 0x00800000 [(0, 0x7FFFFFFF), (1, 0x1)] [0x2F01])
    (fun t => t.locals[0] == 0x80000000 && !(StatusReg.ofWord t.locals[5]).z && (StatusReg.ofWord t.locals[5]).n &&
      (StatusReg.ofWord t.locals[5]).v && !(StatusReg.ofWord t.locals[5]).c && raised t && t.locals[4] == 0x3102) = true := by decide +kernel

theorem test_ADDC : goes (start 0x00800003 [] [0x5302])
    (fun t => t.locals[0] == 0x1 && !t.sr.z && !t.sr.n && !t.sr.v && !t.sr.c && t.pc == 0x3102) = true := by decide +kernel

theorem test_ADDI : goes (start 0x00800000 [(1, 0x5)] [0x6B1F])
    (fun t => t.locals[1] == 0x4 && !t.sr.z && !t.sr.n && !t.sr.v && t.sr.c && t.pc == 0x3102) = true := by decide +kernel

theorem test_ADDI_CZ : goes (start 0x00800000 [(1, 0xFFFFFFFF)] [0x6A11])
    (fun t => t.locals[1] == 0x0 && t.sr.z && !t.sr.n && !t.sr.v && t.sr.c && t.pc == 0x3102) = true := by decide +kernel

theorem test_ADDSI : goes (start 0x00800001 [(1, 0x80000000)] [0x6F1F])
    (fun t => t.locals[1] == 0x7FFFFFFF && !(StatusReg.ofWord t.locals[5]).z && !(StatusReg.ofWord t.locals[5]).n &&
      (StatusReg.ofWord t.locals[5]).v && (StatusReg.ofWord t.locals[5]).c && raised t && t.locals[4] == 0x3102) = true := by decide +kernel

theorem test_ADDI_CZ_again : goes (start 0x00800003 [(1, 0x2)] [0x6A10])
    (fun t => t.locals[1] == 0x2 && !t.sr.z && !t.sr.n && !t.sr.v && !t.sr.c && t.pc == 0x3102) = true := by decide +kernel

theorem test_SUM : goes (start 0x00800000 [(1, 0xA)] [0x1B01, 0x0064])
    (fun t => t.locals[0] == 0x6E && !t.sr.z && !t.sr.n && !t.sr.v && !t.sr.c && t.pc == 0x3104) = true := by decide +kernel

theorem test_SUMS : goes (start 0x00800000 [(1, 0x7FFFFFFF)] [0x1F01, 0x0001])
    (fun t => t.locals[0] == 0x80000000 && !(StatusReg.ofWord t.locals[5]).z && (StatusReg.ofWord t.locals[5]).n &&
      (StatusReg.ofWord t.locals[5]).v && !(StatusReg.ofWord t.locals[5]).c && raised t && t.locals[4] == 0x3104) = true := by decide +kernel

theorem test_SUB : goes (start 0x00800000 [(1, 0x1)] [0x4B01])
    (fun t => t.locals[0] == 0xFFFFFFFF && !t.sr.z && t.sr.n && !t.sr.v && t.sr.c && t.pc == 0x3102) = true := by decide +kernel

theorem test_SUBS : goes (start 0x00800000 [(0, 0x80000000), (1, 0x1)] [0x4F01])
    (fun t => t.locals[0] == 0x7FFFFFFF && !(StatusReg.ofWord t.locals[5]).z && !(StatusReg.ofWord t.locals[5]).n &&
      (StatusReg.ofWord t.locals[5]).v && !(StatusReg.ofWord t.locals[5]).c && raised t && t.locals[4] == 0x3102) = true := by decide +kernel

theorem test_SUBC : goes (start 0x00800003 [] [0x4302])
    (fun t => t.locals[0] == 0xFFFFFFFF && !t.sr.z && t.sr.n && !t.sr.v && t.sr.c && t.pc == 0x3102) = true := by decide +kernel

theorem test_NEG : goes (start 0x00800000 [(1, 0x1)] [0x5B01])
    (fun t => t.locals[0] == 0xFFFFFFFF && !t.sr.z && t.sr.n && !t.sr.v && t.sr.c && t.pc == 0x3102) = true := by decide +kernel

theorem test_NEGS : goes (start 0x00800001 [(1, 0x80000000)] [0x5F01])
    (fun t => t.locals[0] == 0x80000000 && !(StatusReg.ofWord t.locals[5]).z && (StatusReg.ofWord t.locals[5]).n &&
      (StatusReg.ofWord t.locals[5]).v && (StatusReg.ofWord t.locals[5]).c && raised t && t.locals[4] == 0x3102) = true := by decide +kernel

theorem test_MUL : goes (start 0x00800000 [(0, 0xFFFFFFFF), (1, 0x2)] [0xBF01])
    (fun t => t.locals[0] == 0xFFFFFFFE && !t.sr.z && t.sr.n && t.pc == 0x3102) = true := by decide +kernel

theorem test_MULS : goes (start 0x00800000 [(0, 0xFFFFFFFF), (2, 0x2)] [0xB702])
    (fun t => t.locals[0] == 0xFFFFFFFF && t.locals[1] == 0xFFFFFFFE && !t.sr.z && t.sr.n && t.pc == 0x3102) = true := by decide +kernel

theorem test_MULU : goes (start 0x00800000 [(0, 0xFFFFFFFF), (2, 0xFFFFFFFF)] [0xB302])
    (fun t => t.locals[0] == 0xFFFFFFFE && t.locals[1] == 0x1 && !t.sr.z && t.sr.n && t.pc == 0x3102) = true := by decide +kernel

theorem test_DIVS : goes (start 0x00800000 [(1, 0x7), (2, 0xFFFFFFFE)] [0x0F02])
    (fun t => t.locals[1] == 0xFFFFFFFD && t.locals[0] == 0x1 && !t.sr.z && t.sr.n && !t.sr.v && t.pc == 0x3102) = true := by decide +kernel

theorem test_DIVS_again : goes (start 0x00800000 [(1, 0x7), (2, 0x2)] [0x0F02])
    (fun t => t.locals[1] == 0x3 && t.locals[0] == 0x1 && !t.sr.z && !t.sr.n && !t.sr.v && t.pc == 0x3102) = true := by decide +kernel

theorem test_DIVU : goes (start 0x00800000 [(0, 0x1), (2, 0x3)] [0x0B02])
    (fun t => t.locals[1] == 0x55555555 && t.locals[0] == 0x1 && !t.sr.z && !t.sr.n && !t.sr.v && t.pc == 0x3102) = true := by decide +kernel

theorem test_DIVU_again : goes (start 0x00800000 [(0, 0x3), (2, 0x3)] [0x0B02])
    (fun t => raised t && t.locals[4] == 0x3102) = true := by decide +kernel

theorem test_SHLI : goes (start 0x00800000 [(1, 0xFF)] [0xAA14])
    (fun t => t.locals[1] == 0xFF0 && !t.sr.z && !t.sr.n && !t.sr.v && t.pc == 0x3102) = true := by decide +kernel

theorem test_SHLI_again : goes (start 0x00800000 [(1, 0x40000000)] [0xAA11])
    (fun t => t.locals[1] == 0x80000000 && !t.sr.z && t.sr.n && t.sr.v && t.pc == 0x3102) = true := by decide +kernel

theorem test_SHLDI : goes (start 0x00800000 [(2, 0x1), (3, 0x80000000)] [0x8828])
    (fun t => t.locals[2] == 0x180 && t.locals[3] == 0x0 && !t.sr.z && !t.sr.n && !t.sr.v && t.pc == 0x3102) = true := by decide +kernel

theorem test_SHL : goes (start 0x00800000 [(1, 0x1), (2, 0x25)] [0x8B12])
    (fun t => t.locals[1] == 0x20 && !t.sr.z && !t.sr.n && !t.sr.v && t.pc == 0x3102) = true := by decide +kernel

theorem test_SHLD : goes (start 0x00800000 [(3, 0xFFFFFFFF), (4, 0x4)] [0x8A24])
    (fun t => t.locals[2] == 0xF && t.locals[3] == 0xFFFFFFF0 && !t.sr.z && !t.sr.n && !t.sr.v && t.pc == 0x3102) = true := by decide +kernel

theorem test_SARI : goes (start 0x00800000 [(1, 0x80000003)] [0xA611])
    (fun t => t.locals[1] == 0xC0000001 && !t.sr.z && t.sr.n && t.sr.c && t.pc == 0x3102) = true := by decide +kernel

theorem test_SARI_again : goes (start 0x00800000 [(1, 0x80000000)] [0xA71F])
    (fun t => t.locals[1] == 0xFFFFFFFF && !t.sr.z && t.sr.n && !t.sr.c && t.pc == 0x3102) = true := by decide +kernel

theorem test_SARDI : goes (start 0x00800000 [(2, 0x80000000), (3, 0x1)] [0x8421])
    (fun t => t.locals[2] == 0xC0000000 && t.locals[3] == 0x0 && !t.sr.z && t.sr.n && t.sr.c && t.pc == 0x3102) = true := by decide +kernel

theorem test_SAR : goes (start 0x00800000 [(1, 0xFFFFFF00), (2, 0x8)] [0x8712])
    (fun t => t.locals[1] == 0xFFFFFFFF && !t.sr.z && t.sr.n && !t.sr.c && t.pc == 0x3102) = true := by decide +kernel

theorem test_SHRI : goes (start 0x00800000 [(1, 0x80000003)] [0xA211])
    (fun t => t.locals[1] == 0x40000001 && !t.sr.z && !t.sr.n && t.sr.c && t.pc == 0x3102) = true := by decide +kernel

theorem test_SHRI_again : goes (start 0x00800000 [(1, 0x80000000)] [0xA31F])
    (fun t => t.locals[1] == 0x1 && !t.sr.z && !t.sr.n && !t.sr.c && t.pc == 0x3102) = true := by decide +kernel

theorem test_SHRDI : goes (start 0x00800000 [(2, 0x1)] [0x8120])
    (fun t => t.locals[2] == 0x0 && t.locals[3] == 0x10000 && !t.sr.z && !t.sr.n && !t.sr.c && t.pc == 0x3102) = true := by decide +kernel

theorem test_SHR : goes (start 0x00800000 [(1, 0x10), (2, 0x5)] [0x8312])
    (fun t => t.locals[1] == 0x0 && t.sr.z && !t.sr.n && t.sr.c && t.pc == 0x3102) = true := by decide +kernel

theorem test_ROL : goes (start 0x00800000 [(1, 0x80000001), (2, 0x1)] [0x8F12])
    (fun t => t.locals[1] == 0x3 && !t.sr.z && !t.sr.n && t.pc == 0x3102) = true := by decide +kernel

theorem test_XM4 : goes (start 0x00800008 [(2, 0x5)] [0x1312, 0x2064])
    (fun t => t.locals[1] == 0x14 && !t.sr.z && !t.sr.n && t.sr.v && !t.sr.c && t.pc == 0x3104) = true := by decide +kernel

theorem test_XM4_again : goes (start 0x00800000 [(2, 0x64)] [0x1312, 0x2064])
    (fun t => t.locals[1] == 0x190 && t.pc == 0x3104) = true := by decide +kernel

theorem test_XM1 : goes (start 0x00800000 [(2, 0xFFFFFFFF)] [0x1312, 0x0064])
    (fun t => t.locals[1] == 0xFFFFFFFF && raised t && t.locals[4] == 0x3104) = true := by decide +kernel

theorem test_XX4 : goes (start 0x00800000 [(2, 0x40000001)] [0x1312, 0x6000])
    (fun t => t.locals[1] == 0x4 && t.pc == 0x3104) = true := by decide +kernel

theorem test_CHK : goes (start 0x00800000 [(1, 0x5), (2, 0x5)] [0x0312])
    (fun t => t.locals[1] == 0x5 && t.pc == 0x3102) = true := by decide +kernel

theorem test_CHK_again : goes (start 0x00800000 [(1, 0x6), (2, 0x5)] [0x0312])
    (fun t => t.locals[1] == 0x6 && raised t && t.locals[4] == 0x3102) = true := by decide +kernel

theorem test_CHK_zero : goes (start 0x00800000 [] [0x0000])
    (fun t => raised t && t.locals[4] == 0x3102) = true := by decide +kernel

theorem test_CHKZ : goes (start 0x00800000 [] [0x0211])
    (fun t => raised t && t.locals[4] == 0x3102) = true := by decide +kernel

theorem test_NOP : goes (start 0x00800000 [] [0x0300])
    (fun t => t.locals[0] == 0x0 && t.pc == 0x3102) = true := by decide +kernel

theorem test_CMP : goes (start 0x00800000 [(1, 0x80000000), (2, 0x1)] [0x2312])
    (fun t => !t.sr.z && t.sr.n && t.sr.v && !t.sr.c && t.pc == 0x3102) = true := by decide +kernel

theorem test_CMPI : goes (start 0x00800000 [(1, 0xA)] [0x621A])
    (fun t => t.sr.z && !t.sr.n && !t.sr.v && !t.sr.c && t.pc == 0x3102) = true := by decide +kernel

theorem test_CMPB : goes (start 0x00800000 [(1, 0xF0), (2, 0xF)] [0x3312])
    (fun t => t.sr.z && t.pc == 0x3102) = true := by decide +kernel

theorem test_CMPBI : goes (start 0x00800000 [(1, 0x80)] [0x7316])
    (fun t => !t.sr.z && t.pc == 0x3102) = true := by decide +kernel

theorem test_CMPBI_ANYBZ : goes (start 0x00800000 [(1, 0x41420043)] [0x7210])
    (fun t => t.sr.z && t.pc == 0x3102) = true := by decide +kernel

theorem test_TESTLZ : goes (start 0x00800000 [(2, 0x10000)] [0x8E12])
    (fun t => t.locals[1] == 0xF && t.pc == 0x3102) = true := by decide +kernel

theorem test_SET1 : goes (start 0x00800000 [] [0xBA12])
    (fun t => t.locals[1] == 0x1 && t.pc == 0x3102) = true := by decide +kernel

theorem test_SET0 : goes (start 0x00800000 [(1, 0x3)] [0xBA13])
    (fun t => t.locals[1] == 0x0 && t.pc == 0x3102) = true := by decide +kernel

theorem test_SETE : goes (start 0x00800002 [] [0xBA1C])
    (fun t => t.locals[1] == 0x1 && t.pc == 0x3102) = true := by decide +kernel

theorem test_SETNE : goes (start 0x00800002 [(1, 0x4)] [0xBA1D])
    (fun t => t.locals[1] == 0x0 && t.pc == 0x3102) = true := by decide +kernel

theorem test_SETLT : goes (start 0x00800004 [] [0xBA16])
    (fun t => t.locals[1] == 0x1 && t.pc == 0x3102) = true := by decide +kernel

theorem test_SETGE : goes (start 0x00800004 [(1, 0x4)] [0xBA17])
    (fun t => t.locals[1] == 0x0 && t.pc == 0x3102) = true := by decide +kernel

theorem test_SETLE : goes (start 0x00800000 [(1, 0x4)] [0xBA14])
    (fun t => t.locals[1] == 0x0 && t.pc == 0x3102) = true := by decide +kernel

theorem test_SETGT : goes (start 0x00800000 [] [0xBA15])
    (fun t => t.locals[1] == 0x1 && t.pc == 0x3102) = true := by decide +kernel

theorem test_SETSE : goes (start 0x00800000 [(1, 0x2)] [0xBA18])
    (fun t => t.locals[1] == 0x0 && t.pc == 0x3102) = true := by decide +kernel

theorem test_SETHT : goes (start 0x00800000 [] [0xBA19])
    (fun t => t.locals[1] == 0x1 && t.pc == 0x3102) = true := by decide +kernel

theorem test_SETV : goes (start 0x00800008 [] [0xBA1E])
    (fun t => t.locals[1] == 0x1 && t.pc == 0x3102) = true := by decide +kernel

theorem test_SETNV : goes (start 0x00800008 [(1, 0x3)] [0xBA1F])
    (fun t => t.locals[1] == 0x0 && t.pc == 0x3102) = true := by decide +kernel

theorem test_SET1M : goes (start 0x00800000 [] [0xBB12])
    (fun t => t.locals[1] == 0xFFFFFFFF && t.pc == 0x3102) = true := by decide +kernel

theorem test_SETEM : goes (start 0x00800002 [] [0xBB1C])
    (fun t => t.locals[1] == 0xFFFFFFFF && t.pc == 0x3102) = true := by decide +kernel

theorem test_SETNEM : goes (start 0x00800002 [(1, 0x3)] [0xBB1D])
    (fun t => t.locals[1] == 0x0 && t.pc == 0x3102) = true := by decide +kernel

theorem test_MOV : goes (start 0x00800001 [(2, 0x80000000)] [0x2712])
    (fun t => t.locals[1] == 0x80000000 && !t.sr.z && t.sr.n && t.sr.c && t.pc == 0x3102) = true := by decide +kernel

theorem test_MOVI : goes (start 0x00800000 [] [0x670E])
    (fun t => t.locals[0] == 0xFFFFFFFE && !t.sr.z && t.sr.n && t.pc == 0x3102) = true := by decide +kernel

theorem test_MOVD : goes (start 0x00800000 [(5, 0x7)] [0x0724])
    (fun t => t.locals[2] == 0x0 && t.locals[3] == 0x7 && !t.sr.z && !t.sr.n && t.pc == 0x3102) = true := by decide +kernel

theorem test_MOVD_zero : goes (start 0x00800000 [(2, 0x4), (3, 0x4)] [0x0621])
    (fun t => t.locals[2] == 0x0 && t.locals[3] == 0x0 && t.sr.z && !t.sr.n && t.pc == 0x3102) = true := by decide +kernel

theorem test_AND : goes (start 0x00800000 [(1, 0x0F0F0F0F), (2, 0x00FF00FF)] [0x5712])
    (fun t => t.locals[1] == 0x000F000F && !t.sr.z && t.pc == 0x3102) = true := by decide +kernel

theorem test_ANDN : goes (start 0x00800000 [(1, 0xFFFFFFFF), (2, 0xF0)] [0x3712])
    (fun t => t.locals[1] == 0xFFFFFF0F && !t.sr.z && t.pc == 0x3102) = true := by decide +kernel

theorem test_OR : goes (start 0x00800000 [] [0x3B12])
    (fun t => t.locals[1] == 0x0 && t.sr.z && t.pc == 0x3102) = true := by decide +kernel

theorem test_XOR : goes (start 0x00800000 [(1, 0x4)] [0x3F11])
    (fun t => t.locals[1] == 0x0 && t.sr.z && t.pc == 0x3102) = true := by decide +kernel

theorem test_ANDNI : goes (start 0x00800000 [(1, 0x12345678)] [0x7712, 0x00FF])
    (fun t => t.locals[1] == 0x12345600 && !t.sr.z && t.pc == 0x3104) = true := by decide +kernel

theorem test_ORI : goes (start 0x00800000 [] [0x7A11])
    (fun t => t.locals[1] == 0x1 && !t.sr.z && t.pc == 0x3102) = true := by decide +kernel

theorem test_XORI : goes (start 0x00800000 [(1, 0xFF)] [0x7F1F])
    (fun t => t.locals[1] == 0xFFFFFF00 && !t.sr.z && t.pc == 0x3102) = true := by decide +kernel

theorem test_NOT : goes (start 0x00800000 [(2, 0xFFFFFFFF)] [0x4712])
    (fun t => t.locals[1] == 0x0 && t.sr.z && t.pc == 0x3102) = true := by decide +kernel

theorem test_MASK : goes (start 0x00800000 [(2, 0x12345678)] [0x1712, 0x00FF])
    (fun t => t.locals[1] == 0x78 && !t.sr.z && t.pc == 0x3104) = true := by decide +kernel

theorem test_EMUL : goes ((start 0x00800000 [(1, 0x3), (2, 0xFFFFFFFE)] [0xCE12, 0x0102]).writeGlobal 14 0x5)
    (fun t => t.readGlobal 15 == 0xFFFFFFFA && t.readGlobal 14 == 0x5 && t.pc == 0x3104) = true := by decide +kernel

theorem test_EMULU : goes (start 0x00800000 [(1, 0xFFFFFFFF), (2, 0x2)] [0xCE12, 0x0104])
    (fun t => t.readGlobal 14 == 0x1 && t.readGlobal 15 == 0xFFFFFFFE && t.pc == 0x3104) = true := by decide +kernel

theorem test_EMULS : goes (start 0x00800000 [(1, 0xFFFFFFFF), (2, 0x2)] [0xCE12, 0x0106])
    (fun t => t.readGlobal 14 == 0xFFFFFFFF && t.readGlobal 15 == 0xFFFFFFFE && t.pc == 0x3104) = true := by decide +kernel

theorem test_EMAC : goes ((start 0x00800000 [(1, 0x3), (2, 0x4)] [0xCE12, 0x010A]).writeGlobal 15 0xA)
    (fun t => t.readGlobal 15 == 0x16 && t.pc == 0x3104) = true := by decide +kernel

theorem test_EMACD : goes ((start 0x00800000 [(1, 0x1), (2, 0x1)] [0xCE12, 0x010E]).writeGlobal 15 0xFFFFFFFF)
    (fun t => t.readGlobal 14 == 0x1 && t.readGlobal 15 == 0x0 && t.pc == 0x3104) = true := by decide +kernel

theorem test_EMSUB : goes ((start 0x00800000 [(1, 0x3), (2, 0x4)] [0xCE12, 0x011A]).writeGlobal 15 0xA)
    (fun t => t.readGlobal 15 == 0xFFFFFFFE && t.pc == 0x3104) = true := by decide +kernel

theorem test_EMSUBD : goes (start 0x00800000 [(1, 0x1), (2, 0x1)] [0xCE12, 0x011E])
    (fun t => t.readGlobal 14 == 0xFFFFFFFF && t.readGlobal 15 == 0xFFFFFFFF && t.pc == 0x3104) = true := by decide +kernel

theorem test_EHMAC : goes ((start 0x00800000 [(1, 0x00020003), (2, 0x00040005)] [0xCE12, 0x002A]).writeGlobal 15 0x1)
    (fun t => t.readGlobal 15 == 0x18 && t.pc == 0x3104) = true := by decide +kernel

theorem test_EHMACD : goes (start 0x00800000 [(1, 0xFFFF0001), (2, 0x00020001)] [0xCE12, 0x002E])
    (fun t => t.readGlobal 14 == 0xFFFFFFFF && t.readGlobal 15 == 0xFFFFFFFF && t.pc == 0x3104) = true := by decide +kernel

theorem test_EHCMULD : goes (start 0x00800000 [(1, 0x00020003), (2, 0x00040005)] [0xCE12, 0x0046])
    (fun t => t.readGlobal 14 == 0xFFFFFFF9 && t.readGlobal 15 == 0x16 && t.pc == 0x3104) = true := by decide +kernel

theorem test_EHCMACD : goes (((start 0x00800000 [(1, 0x00020003), (2, 0x00040005)] [0xCE12, 0x004E]).writeGlobal 14 0x7).writeGlobal 15 0x1)
    (fun t => t.readGlobal 14 == 0x0 && t.readGlobal 15 == 0x17 && t.pc == 0x3104) = true := by decide +kernel

theorem test_EHCSUMD : goes (((start 0x00800000 [(1, 0x00100020)] [0xCE11, 0x0086]).writeGlobal 14 0x1).writeGlobal 15 0x2)
    (fun t => t.readGlobal 14 == 0x00110022 && t.readGlobal 15 == 0x000F001E && t.pc == 0x3104) = true := by decide +kernel

theorem test_EHCFFTD : goes (((start 0x00800000 [(1, 0x00100020)] [0xCE11, 0x0096]).writeGlobal 14 0x00018000).writeGlobal 15 0x00010000)
    (fun t => t.readGlobal 14 == 0x00130022 && t.readGlobal 15 == 0x000D001E && t.pc == 0x3104) = true := by decide +kernel

theorem test_EHCFFTSD : goes (((start 0x00800000 [(1, 0x00100020)] [0xCE11, 0x0296]).writeGlobal 14 0x00018000).writeGlobal 15 0x00010000)
    (fun t => t.readGlobal 14 == 0x00090011 && t.readGlobal 15 == 0x0006000F && t.pc == 0x3104) = true := by decide +kernel

theorem test_LDW_D : goes (withData (start 0x00800000 [(2, 0x1000)] [0x9323, 0x3000]))
    (fun t => t.locals[3] == 0x12B4F678 && t.pc == 0x3104) = true := by decide +kernel

theorem test_LDBU_D : goes (withData (start 0x00800000 [(2, 0x1000)] [0x9323, 0x1001]))
    (fun t => t.locals[3] == 0xB4 && t.pc == 0x3104) = true := by decide +kernel

theorem test_LDBS_D : goes (withData (start 0x00800000 [(2, 0x1000)] [0x9323, 0x0001]))
    (fun t => t.locals[3] == 0xFFFFFFB4 && t.pc == 0x3104) = true := by decide +kernel

theorem test_LDHU_D : goes (withData (start 0x00800000 [(2, 0x1000)] [0x9323, 0x2002]))
    (fun t => t.locals[3] == 0xF678 && t.pc == 0x3104) = true := by decide +kernel

theorem test_LDHS_D : goes (withData (start 0x00800000 [(2, 0x1000)] [0x9323, 0x2003]))
    (fun t => t.locals[3] == 0xFFFFF678 && t.pc == 0x3104) = true := by decide +kernel

theorem test_LDD_D : goes (withData (start 0x00800000 [(2, 0x1000)] [0x9324, 0x3001]))
    (fun t => t.locals[4] == 0x12B4F678 && t.locals[5] == 0x8001FF7F && t.pc == 0x3104) = true := by decide +kernel

theorem test_LDW_P : goes (withData (start 0x00800000 [(2, 0x1000)] [0xD523]))
    (fun t => t.locals[3] == 0x12B4F678 && t.locals[2] == 0x1004 && t.pc == 0x3102) = true := by decide +kernel

theorem test_LDD_P : goes (withData (start 0x00800000 [(2, 0x1000)] [0xD724]))
    (fun t => t.locals[4] == 0x12B4F678 && t.locals[5] == 0x8001FF7F && t.locals[2] == 0x1008 && t.pc == 0x3102) = true := by decide +kernel

theorem test_LDW_R : goes (withData (start 0x00800000 [(2, 0x1000)] [0xD122]))
    (fun t => t.locals[2] == 0x12B4F678 && t.pc == 0x3102) = true := by decide +kernel

theorem test_LDBU_N : goes (withData (start 0x00800000 [(2, 0x1000)] [0x9723, 0x1001]))
    (fun t => t.locals[3] == 0x12 && t.locals[2] == 0x1001 && t.pc == 0x3104) = true := by decide +kernel

theorem test_LDW_N : goes (withData (start 0x00800000 [(2, 0x1000)] [0x9723, 0x3004]))
    (fun t => t.locals[3] == 0x12B4F678 && t.locals[2] == 0x1004 && t.pc == 0x3104) = true := by decide +kernel

theorem test_LDW_A : goes (withData (start 0x00800000 [] [0x9113, 0xB000, 0x1004]))
    (fun t => t.locals[3] == 0x8001FF7F && t.pc == 0x3106) = true := by decide +kernel

theorem test_STW_D : goes (start 0x00800000 [(2, 0x1000), (3, 0xDEADBEEF)] [0x9B23, 0x3000])
    (fun t => t.valueAt .word 0x1000 == 0xDEADBEEF && t.pc == 0x3104) = true := by decide +kernel

theorem test_STBU_D : goes (withData (start 0x00800000 [(2, 0x1000), (3, 0x123456AB)] [0x9B23, 0x1003]))
    (fun t => t.valueAt .word 0x1000 == 0x12B4F6AB && t.pc == 0x3104) = true := by decide +kernel

theorem test_STBS_D : goes (withData (start 0x00800000 [(2, 0x1000), (3, 0x80)] [0x9B23, 0x0000]))
    (fun t => t.valueAt .word 0x1000 == 0x80B4F678 && raised t && t.locals[4] == 0x3104) = true := by decide +kernel

theorem test_STBS_D_again : goes (withData (start 0x00800000 [(2, 0x1000), (3, 0xFFFFFF80)] [0x9B23, 0x0000]))
    (fun t => t.valueAt .word 0x1000 == 0x80B4F678 && t.pc == 0x3104) = true := by decide +kernel

theorem test_STHS_D : goes (withData (start 0x00800000 [(2, 0x1000), (3, 0xFFFF7FFF)] [0x9B23, 0x2003]))
    (fun t => t.valueAt .word 0x1000 == 0x12B47FFF && raised t && t.locals[4] == 0x3104) = true := by decide +kernel

theorem test_STW_P : goes (start 0x00800000 [(2, 0x1000), (3, 0x99)] [0xDD23])
    (fun t => t.valueAt .word 0x1000 == 0x99 && t.locals[2] == 0x1004 && t.pc == 0x3102) = true := by decide +kernel

theorem test_STD_P : goes (start 0x00800000 [(2, 0x1000), (3, 0x99)] [0xDF22])
    (fun t => t.valueAt .word 0x1000 == 0x1000 && t.valueAt .word 0x1004 == 0x99 && t.locals[2] == 0x1008 && t.pc == 0x3102) = true := by decide +kernel

theorem test_STW_R : goes (start 0x00800000 [(2, 0xC0000012), (3, 0x77)] [0xD923])
    (fun t => t.valueAt .word 0xC0000010 == 0x77 && t.pc == 0x3102) = true := by decide +kernel

theorem test_LDW_S : goes ({ start 0x00800000 [(2, 0x1048), (18, 0x1234)] [0x9723, 0x3007] with sp := 0x1040 })
    (fun t => t.locals[3] == 0x1234 && t.locals[2] == 0x104C && t.pc == 0x3104) = true := by decide +kernel

theorem test_BNE_or_BE : goes (start 0x00800000 [] [0xF37B])
    (fun t => t.pc == 0x30FC) = true := by decide +kernel

theorem test_BNE_or_BE_again : goes (start 0x00800002 [] [0xF37B])
    (fun t => t.pc == 0x3102) = true := by decide +kernel

theorem test_BR : goes (start 0x00800000 [] [0xFC80, 0x0100])
    (fun t => t.pc == 0x3204) = true := by decide +kernel

theorem test_CALL : goes (start 0x00800000 [(2, 0x3000)] [0xEF42, 0x0008])
    (fun t => t.pc == 0x3008) = true := by decide +kernel

theorem test_FETCH : goes (start 0x00800000 [] [0xB816])
    (fun t => t.pc == 0x3102) = true := by decide +kernel

theorem test_SETADR : goes ({ start 0x24800000 [] [0xBA10] with sp := 0x1040 })
    (fun t => t.locals[19] == 0x1048 && t.pc == 0x3102) = true := by decide +kernel

theorem test_SETADR_again : goes ({ start 0x04800000 [] [0xBA10] with sp := 0x11F0 })
    (fun t => t.locals[3] == 0x1208 && t.pc == 0x3102) = true := by decide +kernel

theorem test_ORI_SR : goes (start 0x00800000 [] [0x7911, 0x0004, 0x0000])
    (fun t => t.pc == 0x3106) = true := by decide +kernel
/-! ## Control flow, exceptions, devices -/

/-- CALL L3, G1 = 0, 100 with FP = 10, FL = 4: the return address with S = 0 and the SR at FP + 3 (45 R361). -/
theorem test_CALL_saves : goes { start 0x14800002 [] [0xEE31, 0x2100] with pc := 0x3100 }
    (fun t => t.pc == 0x2100 && t.locals[13] == 0x3104 && t.locals[14] == 0x14920002 && t.sr.fp == 13 && t.sr.fl == 6 && t.callLockout)
    = true := by decide +kernel

/-- TRAP 5 with FP = 10, FL = 4, S = 0 (45 R367): entry FFFFFF14. -/
theorem test_TRAP : goes (start 0x14800000 [] [0xFF17])
    (fun t => t.pc == 0xFFFFFF14 && t.locals[14] == 0x3102 && t.locals[15] == 0x148A0000 && t.sr.fp == 14 && t.sr.fl == 6 && t.sr.s && t.sr.l)
    = true := by decide +kernel

/-- FRAME L8, L2 with FP = 50, SP = 1000 (45 R370): two registers are pushed. -/
theorem test_FRAME_pushes : goes { start 0x64800000 [(0, 0xA0), (1, 0xA1)] [0xED82] with sp := 0x1000 }
    (fun t => t.sr.fp == 48 && t.sr.fl == 8 && t.sp == 0x1008 && t.valueAt .word 0x1000 == 0xA0 && t.valueAt .word 0x1004 == 0xA1)
    = true := by decide +kernel

/-- The same with UB = SP: a Frame Error after the push (45 R372). -/
theorem test_FRAME_error : goes { start 0x64800000 [(0, 0xA0), (1, 0xA1)] [0xED82] with sp := 0x1000, ub := 0x1000 }
    (fun t => t.pc == 0xFFFFFFF0 && t.sp == 0x1008 && t.sr.fp == 56 && t.sr.fl == 2) = true := by decide +kernel

/-- RET PC, L0 with the frame two words short (45 R380, R382). -/
theorem test_RET_pulls : goes
    { (start 0x28C00000 [(20, 0x1004), (21, 0x04920000)] [0x0500]).placeBytes 0x8008 [0, 0, 0, 0x33, 0, 0, 0, 0x44] with sp := 0x8010 }
    (fun t => t.pc == 0x1004 && t.sr.fp == 2 && t.sp == 0x8008 && t.locals[2] == 0x33 && t.locals[3] == 0x44 && t.sr.ilc == 0)
    = true := by decide +kernel

/-- RET from user to supervisor state: Privilege Error (45 R381). -/
theorem test_RET_privilege : goes (start 0x28C00000 [(20, 0x1005), (21, 0x04920000)] [0x0500])
    (fun t => t.pc == 0xFFFFFFF0 && t.locals[6] == 0x1005 && t.sr.s && t.sr.l) = true := by decide +kernel

/-- FADD L1, L2 with FP = 10, FL = 4, SP = 1000 (47 R430, R431): entry FFFFFE00. -/
theorem test_FADD : goes { start 0x14880000 [(12, 0xAAAAAAAA), (13, 0xBBBBBBBB)] [0xC012] with sp := 0x1000 }
    (fun t => t.pc == 0xFFFFFE00 && t.locals[14] == 0x102C && t.locals[15] == 0xAAAAAAAA && t.locals[16] == 0xBBBBBBBB &&
      t.locals[17] == 0x3102 && t.locals[18] == 0x148A0000 && t.sr.fl == 6 && t.sr.l) = true := by decide +kernel

/-- DBR to 3106: the PC is the target, the instruction after it is next (45 R356). -/
theorem test_DBR : goes (start 0x00800000 [] [0xEC04, 0x6A02])
    (fun t => t.pc == 0x3106 && decide (t.delay = .taken 0x3102)) = true := by decide +kernel

/-- The delay instruction, at 3102, with the PC at the target (45 R358). -/
theorem test_delay_instruction : goes { start 0x00800000 [] [0xEC04, 0x6602] with pc := 0x3106, delay := .taken 0x3102 }
    (fun t => t.pc == 0x3106 && t.locals[0] == 2 && decide (t.delay = .none)) = true := by decide +kernel

/-- INT1 unmasked and high after a NOP (60 R478): trap number 53, I set, the address after the NOP saved. -/
theorem test_interrupt : goes { start 0x00800002 [] [0x0300] with fcr := 0xEFFFFFFF, pins := { Pins.low with int1 := true } }
    (fun t => t.pc == 0xFFFFFFD4 && t.locals[4] == 0x3102 && t.sr.i && t.sr.l && t.sr.fl == 2) = true := by decide +kernel

/-- The timer with TR = TCR + 1 (61 R523): trap number 55. -/
theorem test_timer_interrupt : goes { start 0x00800002 [] [0x0300] with fcr := 0xFF7FFFFF, timer := { State.reset.timer with tr := 5, tcr := 4 } }
    (fun t => t.pc == 0xFFFFFFDC && t.sr.i) = true := by decide +kernel

/-- T = 1: Trace after a NOP (60 R479). -/
theorem test_trace : goes (start 0x00810002 [] [0x0300]) (fun t => t.pc == 0xFFFFFFE4 && !t.sr.i && !t.sr.t) = true := by decide +kernel

/-- ORI SR, 8000 in user state: Privilege Error after the write (60 R502). -/
theorem test_lock_in_user_state : goes (start 0x00800000 [] [0x7912, 0x8000])
    (fun t => raised t && (StatusReg.ofWord t.locals[5]).l) = true := by decide +kernel

/-- MOV TPR, L3 with H = 1 in supervisor state (41 R243). -/
theorem test_MOV_high : goes (start 0x00840020 [(3, 0x123)] [0x2553]) (fun t => t.timer.tpr == 0x123 && !t.sr.h && t.pc == 0x3102) = true := by
  decide +kernel

/-- STW.IOA to the power-down address (61 R540). -/
theorem test_power_down : goes (start 0x00840000 [] [0x9811, 0xBB80, 0x0002]) (fun t => decide (t.power = .powerDown)) = true := by decide +kernel

/-- The boundary after the store that enters power-down (60 R480, 61 R541): with L = 0 INT1 is taken and the processor runs; with L = 1 it runs on; a
pended Extended Overflow is entered, a Trace too, and the processor stays in power-down (log 32). -/
theorem test_power_down_boundary :
    let s (sr : Word) : State := start sr [] [0x9811, 0xBB80, 0x0002]
    let int1 (s : State) : State := { s with fcr := 0xEFFFFFFF, pins := { Pins.low with int1 := true } }
    goes (int1 (s 0x00840000)) (fun t => t.pc == 0xFFFFFFD4 && t.sr.i && decide (t.power = .running)) = true ∧
    goes (int1 (s 0x00848000)) (fun t => t.pc == 0x3106 && decide (t.power = .running)) = true ∧
    goes { s 0x00840000 with eovPending := true } (fun t => t.pc == 0xFFFFFFEC && !t.eovPending && decide (t.power = .powerDown)) = true ∧
    goes (s 0x00850000) (fun t => t.pc == 0xFFFFFFE4 && !t.sr.t && decide (t.power = .powerDown)) = true := by decide +kernel

/-! ## Cases that meet the hypotheses of the statements -/

/-- A state that a statement may speak of: supervisor state, L0 = 1000, L1 = 5, L2 = 80000000, FP = 0, FL = 4, no code. -/
def Tests.calm : State := start 0x00840000 [(0, 0x1000), (1, 5), (2, 0x80000000)] []

/-- The same in user state. -/
def Tests.user : State := start 0x00800000 [(0, 0x1000), (1, 5), (2, 0x80000000)] []

/-- The same with H = 1. -/
def Tests.high : State := start 0x00840020 [(0, 0x1000), (1, 5)] []

/-- A delay instruction of a Delayed Branch of `k` half-words that was not taken. -/
def Tests.slot (k : BitVec 2) : State := { calm with delay := .notTaken, sr := { calm.sr with ilc := k } }

/-- FP = 50 with L0 to L3 in use and SP at 1000: a FRAME of L8 with code 2 is two registers short. -/
def Tests.crowded : State := { start 0x64800000 [] [] with sp := 0x1000 }

/-- A register set from which a Return through L0 must fetch two words. -/
def Tests.spilled : State := { start 0x28C00000 [(21, 0x04920000)] [] with sp := 0x8010 }

/-- Power-down with the timer's request disabled, and with FCR `f` and INT1 low or high. -/
def Tests.down (f : Word) (p : Bool) : State := { calm with power := .powerDown, fcr := f, pins := { Pins.low with int1 := p } }

/-- Sleep with INT1 high and enabled. -/
def Tests.asleep : State := { calm with power := .sleep, fcr := 0xEFFFFFFF, pins := { Pins.low with int1 := true } }

/-- A timer whose time unit has three processor cycles and whose next TPR waits. -/
def Tests.ticking (k : Nat) : Timer := { tpr := 0x00010000, tprPending := some 0x80020000, tcr := 0, tr := 7, prescaler := k }

/-- exec answers a next state of which `f` holds. -/
def Tests.answers (x : Out State) (f : State → Bool) : Bool :=
  match x with
  | .next t => f t
  | _ => false

/-- Such an answer is a next state. -/
theorem Tests.answers_next {x : Out State} {f : State → Bool} (h : answers x f = true) : ∃ t, x = .next t ∧ f t = true := by
  unfold answers at h; split at h
  · exact ⟨_, rfl, h⟩
  · cases h

/-- The hypotheses of answersResult, answersBranch, answersTrapping and answersPair: a register; the SR without and with a Privilege Error; the
PC without and with a Delayed Branch before it; a pair, and G15, which has none. -/
theorem witness_answers :
    (Reg.l 3).notPcSr = true ∧ (Reg.g 1).isSr = true ∧ user.lockForbidden 0x7FFF = false ∧ user.lockForbidden 0x8000 = true ∧
    (Reg.g 0).isPc = true ∧ calm.delay = .none ∧ (slot 1).delay ≠ .none ∧ followSlot (.l 15) = some (.loc 16) ∧
    followSlot (.g 15) = none := by decide +kernel

/-- The bound of `runs`: three half-words with the Delayed Branch. -/
theorem witness_runs : calm.runs 3 true ∧ (slot 1).runs 2 true ∧ (slot 2).runs 1 true ∧ high.runs 2 false := by
  unfold State.runs; decide +kernel

theorem witness_DecodeInvertsEncode : (Instr.movi (.l 0) (.word 7)).wellFormed = true ∧ (Instr.lddN (.l 0) (.g 13) (.long 5)).wellFormed = true := by
  decide

theorem witness_EncodeInvertsDecode : decode 0x93FF 0xFFFF 0xFFFF = .ok (.lddIod (.l 15) (.l 15) (.long 0x7FFFFFF)) := by decide +kernel

/-- For each group a first half-word of it, at the end of its range. -/
theorem witness_ReservedEncodingsRefused :
    let op (h : Half) := h.extractLsb' 10 6
    let rdIs (h : Half) (c : BitVec 4) : Prop := h.getLsbD 9 = false ∧ h.extractLsb' 4 4 = c
    let rsIs (h : Half) (c : BitVec 4) : Prop := h.getLsbD 8 = false ∧ h.extractLsb' 0 4 = c
    let n (h : Half) : BitVec 5 := h.extractLsb' 8 1 ++ h.extractLsb' 0 4
    (0xAFFF : Half).extractLsb' 8 8 ∈ [0x8C#8, 0x8D#8, 0xAC#8, 0xAD#8, 0xAE#8, 0xAF#8] ∧
    (op 0x0401 = 0x01#6 ∧ rdIs 0x0401 0 ∧ rsIs 0x0401 1) ∧ (op 0x1031 = 0x04#6 ∧ rsIs 0x1031 1) ∧
    (op 0x9C1F = 0x27#6 ∧ rdIs 0x9C1F 1) ∧
    (op 0x942F = 0x25#6 ∧ ¬rdIs 0x942F 0 ∧ ¬rdIs 0x942F 1 ∧ (0xF000 : Half).extractLsb' 12 2 = 3#2 ∧ (0xF000 : Half).getLsbD 15 = true) ∧
    (op 0xB90F = 0x2E#6 ∧ rdIs 0xB90F 0) ∧ (op 0xB91F = 0x2E#6 ∧ rdIs 0xB91F 1 ∧ (n 0xB91F).getLsbD 0 = true) ∧
    (op 0xB921 = 0x2E#6 ∧ ¬rdIs 0xB921 0 ∧ ¬rdIs 0xB921 1 ∧ n 0xB921 ∈ [1#5, 16#5, 17#5, 19#5]) ∧
    ((0xCEFF : Half).extractLsb' 8 8 = 0xCE#8 ∧
      (0x297 : Half) ∉ [0x102, 0x104, 0x106, 0x10A, 0x10E, 0x11A, 0x11E, 0x2A, 0x2E, 0x46, 0x4E, 0x86, 0x96, 0x296]) := by decide

theorem witness_ImmediateTable :
    (16#5).toNat ≤ 16 ∧ (0#5).toNat ≤ 16 ∧ 24 ≤ (24#5).toNat ∧ (24#5).toNat ≤ 30 ∧ 24 ≤ (30#5).toNat ∧ (30#5).toNat ≤ 30 ∧
    immLength (.low 5) = immLength (Imm.decode 18 5 0) ∧ immValue (.low 5) = immValue (Imm.decode 18 5 0) ∧
    immMaskValue (.low 5) = immMaskValue (Imm.decode 18 5 0) := by decide

/-- Code of one and of three half-words at an even address. -/
theorem witness_StepRunsDecoded :
    let s := start 0x00840000 [] [0x6711, 0x1234, 0x5678]
    s.power = .running ∧ s.input.resetPin = false ∧ s.cache.wf = true ∧ s.cache.flushAfterSlot = false ∧
    (s.cache.flush 0x3100 |>.wf) = true ∧ ({ s.cache with flushAfterSlot := true } : Cache).wf = true ∧
    (∀ j, j ≤ 8 → s.readRefusal (wordAddress s.pc + BitVec.ofNat 32 (4 * j)) = none) ∧
    (∀ area, s.sense.parityHit area = false) ∧ s.sense.fetchAddress.getLsbD 0 = false ∧
    decodeHalves [0x6711, 0x1234, 0x5678] = .ok (.movi (.l 1) (.word 0x12345678)) ∧
    ([0x6711, 0x1234, 0x5678] : List Half).length = lengthOf 0x6711 0x1234 ∧
    s.sense.holdsCode s.sense.fetchAddress [0x6711, 0x1234, 0x5678] := by
  refine ⟨by decide +kernel, by decide +kernel, by decide +kernel, by decide +kernel, by decide +kernel, by decide +kernel, by decide +kernel,
    by intro a; cases a <;> decide +kernel, by decide +kernel, by decide +kernel, by decide +kernel, fun k h hk => ?_⟩
  match k with
  | 0 => cases hk; decide +kernel
  | 1 => cases hk; decide +kernel
  | 2 => cases hk; decide +kernel
  | n + 3 => cases hk

/-- The reset state, which has the invariant, with a NOP placed where it fetches. -/
theorem witness_StepKeepsInvariant :
    (State.reset.withFetchWord 16 0x0300).Inv ∧ ∃ t, step (State.reset.withFetchWord 16 0x0300) = .next t ∧ (t.pc == 0xFFFFFFFA) = true :=
  ⟨{ pcEven := by decide +kernel
     slotEven := by intro a h; cases h
     memCanonical := by decide +kernel
     memInside := by decide +kernel
     tprWaits := by intro v h; cases h
     prescalerInUnit := by decide +kernel
     asleepClear := by intro _; exact ⟨rfl, rfl⟩
     cacheBounded := by decide +kernel },
   answers_next (by decide +kernel)⟩

theorem witness_ResetOfAnyState :
    ({ calm with schedule := [{ pins := Pins.low, cycles := 0, resetPin := true, parity := 0 }] } : State).input.resetPin = true ∧
    ResetCause.pin ≠ .watchdog ∧ ResetCause.pin ≠ .clockDown ∧ (0x001FFFFF : Word).getLsbD 21 = false ∧
    (0xC0000000 ≤ 0xDFFFFFFF ∧ 0xDFFFFFFF < 0xE0000000) := by decide +kernel

theorem witness_EntryAddresses :
    (0x7000 : Word).extractLsb' 12 3 = 7#3 ∧ (0x3000 : Word).getLsbD 14 = false ∧ (0x0000 : Word).getLsbD 14 = false ∧
    (0x4000 : Word).getLsbD 14 = true ∧ (0x4000 : Word).extractLsb' 12 3 ≠ 7#3 ∧ (0x6000 : Word).extractLsb' 12 3 ≠ 7#3 := by decide

theorem witness_ExceptionEntry : trapEntry calm.bus.mcr 60 = .next 0xFFFFFFF0 := rfl

theorem witness_BoundaryOrder :
    (slot 1).delay ≠ .none ∧ ({ calm with callLockout := true } : State).callLockout = true ∧
    ({ calm with power := .sleep } : State).power = .sleep ∧ (down 0xEFFFFFFF true).power = .powerDown ∧
    (down 0xEFFFFFFF true).interrupt = some .int1 ∧ (down 0xFFFFFFFF true).interrupt = none ∧ (down 0xEFFFFFFF true).delay = .none ∧
    calm.power = .running ∧ calm.delay = .none ∧ calm.callLockout = false ∧ calm.sr.l = false ∧ calm.eovPending = false ∧
    calm.parityPending = false ∧ calm.interrupt = none ∧
    ({ calm with eovPending := true } : State).eovPending = true ∧ ({ calm with parityPending := true } : State).parityPending = true ∧
    ({ calm with fcr := 0xEFFFFFFF, pins := { Pins.low with int1 := true } } : State).interrupt = some .int1 ∧
    State.reset.sr.l = true := by decide +kernel

theorem witness_InterruptRequests :
    ({ calm with fcr := 0xCFFFFFFF, pins := { Pins.low with int1 := true, int2 := true } } : State).interrupt = some .int1 ∧
    ({ calm with fcr := 0xCFFFFFFF, pins := { Pins.low with int1 := true, int2 := true } } : State).requests .int2 = true ∧
    calm.interrupt = none ∧ calm.fcr.getLsbD 13 = true ∧ (0x1000 : Word).extractLsb' 12 2 = 1 ∧ (0x0000 : Word).extractLsb' 12 2 = 0 := by
  decide +kernel

/-- The IO3 modes; WCR = TR = 0 in the first look, and the watchdog. -/
theorem witness_TimerAndPower :
    (0x1400 : Word).extractLsb' 12 2 = 1 ∧ (0x1400 : Word).getLsbD 10 = true ∧ (0x1000 : Word).getLsbD 10 = false ∧
    (0x0000 : Word).extractLsb' 12 2 = 0 ∧ (0x2000 : Word).extractLsb' 12 2 = 2 ∧ (0x3000 : Word).extractLsb' 12 2 = 3 ∧
    calm.io3.eventFlag = false ∧ calm.pins.io3 ≠ calm.fcr.getLsbD 9 ∧ calm.pins.io3 = (0x1400 : Word).getLsbD 9 ∧
    (({ calm with fcr := 0xFFFFEFFF } : State).clock 0).2 = true ∧ (calm.clock 0).2 = false ∧
    (ticking 1).prescaler + 1 < ((ticking 1).tpr.extractLsb' 16 8).toNat + 2 ∧
    ((ticking 2).tpr.extractLsb' 16 8).toNat + 2 ≤ (ticking 2).prescaler + 1 ∧ (ticking 2).tprPending = some 0x80020000 ∧
    (down 0xFFFFDFFF false).input.resetPin = false ∧
    ((down 0xFFFFDFFF false).sense.clock (down 0xFFFFDFFF false).input.cycles).2 = false ∧
    ((down 0xFFFFDFFF false).sense.clock (down 0xFFFFDFFF false).input.cycles).1.interrupt = none ∧
    ((down 0xFFFFEFFF false).sense.clock (down 0xFFFFEFFF false).input.cycles).2 = true ∧
    ((down 0xEFFFFFFF true).sense.clock (down 0xEFFFFFFF true).input.cycles).2 = false ∧
    ((down 0xEFFFFFFF true).sense.clock (down 0xEFFFFFFF true).input.cycles).1.interrupt ≠ none ∧
    asleep.power = .sleep ∧ asleep.sense.pinWake = true ∧ calm.sense.pinWake = false := by decide +kernel

/-- IO3Timing as input (61 R533): the level that the running device meets captures the TR as it is after the cycle; the equality before it is
flagged, and the look after a cycle sees the TR that the cycle left. -/
theorem test_clock_samples :
    let s : State := { calm with fcr := 0xFFFFDFFF, io3 := { calm.io3 with wcr := 8 }, timer := ticking 2 }
    let event : State := { s with pins := { Pins.low with io3 := true } }
    (s.clock 0).1.io3.equalFlag = false ∧ (s.clock 1).1.io3.equalFlag = true ∧ (s.clock 1).1.io3.wcr = 8 ∧
    (event.clock 1).1.io3.eventFlag = true ∧ (event.clock 1).1.io3.wcr = 7 ∧ (event.clock 1).1.io3.equalFlag = false := by decide +kernel

/-- What wakes from sleep (61 R544, log 32): IO3 by its level or an event captured in IO3Timing mode, not by the EqualFlag, and nothing masked. -/
theorem test_sleep_wake :
    let s : State := { calm with power := .sleep, fcr := 0xFFFFDEFF }
    let event : Io3 := { calm.io3 with eventFlag := true }
    ({ s with pins := { Pins.low with io3 := true } } : State).pinWake = true ∧ ({ s with io3 := event } : State).pinWake = true ∧
    ({ s with fcr := 0xFFFFDFFF, io3 := event } : State).pinWake = false ∧ ({ s with fcr := 0xFFFFFEFF, io3 := event } : State).pinWake = false ∧
    ({ s with io3 := { calm.io3 with equalFlag := true } } : State).pinWake = false ∧
    ({ s with fcr := 0xFFFFFFFA, pins := { Pins.low with io1 := true } } : State).pinWake = false ∧
    ({ s with fcr := 0xFFFFFFFE, pins := { Pins.low with io1 := true } } : State).pinWake = true := by decide +kernel

theorem witness_UserStateLeftByEntriesOnly : user.sr.s = false ∧ ∃ t, exec (.trap 5) user = .next t ∧ (t.sr.s) = true :=
  ⟨by decide +kernel, answers_next (by decide +kernel)⟩

theorem witness_UserStateCannotConfigure :
    user.sr.s = false ∧ user.sr.l = false ∧ (∃ t, exec (.fadd 1 2) user = .next t ∧ (t.sr.l && !t.sr.s) = true) ∧
    ∃ t, exec (.ori (.g 1) (.low 0x8000)) user = .next t ∧ (t.sr.l && t.sr.s) = true :=
  ⟨by decide +kernel, by decide +kernel, answers_next (by decide +kernel), answers_next (by decide +kernel)⟩

theorem witness_HighGlobalFlagLastsOneInstruction :
    (∃ t, exec (.ori (.g 1) (.short 20)) calm = .next t ∧ t.sr.h = true) ∧
    ∃ t, exec (.ret (.l 3)) { calm with locals := (calm.locals.set 3 0x1001).set 4 0x00800020 } = .next t ∧ t.sr.h = true :=
  ⟨answers_next (by decide +kernel), answers_next (by decide +kernel)⟩

theorem witness_EveryInstructionSetsTracePending : ∃ t, exec .nop calm = .next t ∧ t.sr.p = true := answers_next (by decide +kernel)

theorem witness_MemoryInstructionsKeepTheFlags :
    (Instr.ldwR 0 (.l 1)).accessesMemory = true ∧ (∃ t, exec (.ldwR 0 (.l 1)) calm = .next t ∧ (t.readLocal 1 == 0) = true) ∧
    ∃ t, exec (.stbsD (.l 0) (.l 0) (.short 0)) calm = .next t ∧ raised t = true :=
  ⟨by decide, answers_next (by decide +kernel), answers_next (by decide +kernel)⟩

theorem witness_MoveResults :
    (calm.sr.h = false ∧ calm.runs 1 true ∧ calm.runs (immLength (.word 0)) true) ∧
    high.sr.h = true ∧ high.runs 1 false ∧ high.runs (immLength (.word 0)) false := by unfold State.runs; decide +kernel

/-- With H = 1, MOV from UB to SP in supervisor state copies and clears H; in user state SP stays (41 R243, log 38). -/
theorem test_mov_high_to_high :
    let s : State := { high with ub := 0x7770 }
    answers (exec (.mov (.g 2) (.g 3)) s) (fun t => t.sp == 0x7770 && t.ub == 0x7770 && !t.sr.h && !t.sr.z) = true ∧
    answers (exec (.mov (.g 2) (.g 3)) { s with sr := { s.sr with s := false } }) (fun t => t.sp == s.sp && t.sr.s && t.sr.l) = true := by
  decide +kernel

/-- Of 48 MBytes that repeat in an area, two addresses that agree in A25..A0 reach the same cell (20 R98). -/
theorem test_address_pins :
    let s : State := { calm with platform := { calm.platform with mem1 := { calm.platform.mem1 with wrap := 0x3000000 } } }
    s.cellOf 0x44000000 = s.cellOf 0x40000000 ∧ s.cellOf 0x43000010 = s.cellOf 0x40000010 ∧ s.cellOf 0x42FFFFFF = 0x42FFFFFF ∧
    s.cellOf 0xC0004004 = 0xC0000004 ∧ s.cellOf 0xE4000001 = 0xE0000001 := by decide +kernel

theorem witness_MoveToHighGlobal :
    high.sr.h = true ∧ high.delay = .none ∧ high.sr.s = true ∧ (highWritten (high.underway 1 1 (movedFlags high 5 0)) 5 2).isSome = true ∧
    (highWritten (high.underway 1 1 (movedFlags high 5 0)) 5 11).isSome = true ∧ ¬12 ≤ (11#4).toNat ∧ 12 ≤ (12#4).toNat ∧
    ({ high with sr := { high.sr with s := false } } : State).sr.s = false ∧ high.highPlain 3 = some high.ub ∧
    (highWritten (high.underway 1 2 (movedFlags high (high.draw 0) 1)) (high.draw 0) 2).isSome = true := by decide +kernel

theorem witness_MoveFromHighGlobal :
    high.sr.h = true ∧ high.delay = .none ∧ ¬12 ≤ (11#4).toNat ∧ 12 ≤ (12#4).toNat ∧ high.highPlain 2 = some high.sp ∧
    high.highPlain 8 = some (0#16 ++ high.io3.wcr) := by decide +kernel

theorem witness_MoveDouble :
    calm.runs 1 (Reg.isGlobal (.l 1) || Reg.isGlobal (.g 1)) ∧ (Reg.g 1).isSr = true ∧ (Reg.g 15).isSr = false ∧ followSlot (.g 15) = none ∧
    followSlot (.g 14) = some (.glob 15) ∧ followSlot (.l 0) = some (regSlot (.l 1)) := by unfold State.runs; decide +kernel

theorem witness_LogicalResults : calm.runs 1 true ∧ calm.runs (immLength (.low 0)) true ∧ calm.runs (constLength (.long 0)) true := by
  unfold State.runs; decide +kernel

theorem witness_AddAndSubtract : calm.runs 1 true ∧ calm.runs (immLength (.word 0)) true ∧ calm.runs (constLength (.short 0)) true := by
  unfold State.runs; decide +kernel

theorem witness_TrappingArithmetic :
    calm.runs 1 true ∧ calm.runs (immLength (.word 0)) true ∧ calm.runs (constLength (.short 0)) true ∧
    BitVec.saddOverflow (calm.operand 1 (.l 2)) (calm.operand 1 (.l 2)) = true ∧
    BitVec.saddOverflow (calm.operand 1 (.l 2)) (calm.operand 1 (.l 1)) = false := by unfold State.runs; decide +kernel

theorem witness_CarryArithmetic : calm.runs 1 (Reg.isGlobal (.l 1) || Reg.isGlobal (.g 1)) := by unfold State.runs; decide +kernel

theorem witness_Multiply :
    calm.runs 1 true ∧ (Reg.l 0).notPcSr = true ∧ (Reg.g 2).notPcSr = true ∧ (Reg.g 1).notPcSr = false ∧ (Reg.g 0).notPcSr = false := by
  unfold State.runs; decide +kernel

/-- L2//L3 = 8000000000000000 by L1 = 5: negative; L0//L1 by L2: no error; L1//L2 by L2: the divisor in the dividend, no error at DIVU; L0//L1 by L0:
an error. -/
theorem witness_Divide :
    calm.runs 1 true ∧ (Reg.l 0).notPcSr = true ∧ (Reg.l 2).notPcSr = true ∧ (Reg.g 1).notPcSr = false ∧ (Reg.g 15).notPcSr = true ∧
    followSlot (.g 15) = none ∧ followSlot (.l 0) = some (.loc 1) ∧
    (calm.operand 1 (.l 2) ++ calm.slotDuring 1 (.loc 3)).msb = true ∧ calm.operand 1 (.l 4) = 0 ∧
    (calm.operand 1 (.l 0)).toNat < (calm.operand 1 (.l 2)).toNat ∧
    ¬(regSlot (.l 2) = regSlot (.l 0) ∨ regSlot (.l 2) = .loc 1) ∧ regSlot (.l 1) = .loc 1 ∧
    followSlot (.l 1) = some (regSlot (.l 2)) ∧ (calm.operand 1 (.l 1)).toNat < (calm.operand 1 (.l 2)).toNat ∧ calm.operand 1 (.l 0) ≠ 0 := by
  unfold State.runs; decide +kernel

/-- DIVU L0, L0 and DIVU L1, L2 (42 R268, 93 U34): the Range Error where the operands call for it, and none where they do not. -/
theorem test_DIVU_overlap :
    answers (exec (.divu (.l 0) (.l 0)) calm) raised = true ∧
    answers (exec (.divu (.l 1) (.l 2)) calm) (fun t => !raised t && t.pc == calm.pc + 2) = true := by decide +kernel

theorem witness_SingleShifts : calm.runs 1 true ∧ (slot 2).runs 1 false := by unfold State.runs; decide +kernel

theorem witness_DoubleShifts :
    calm.runs 1 false ∧ (3#4 ≠ 1#4 ∧ (3#4).toNat ≠ (1#4).toNat + 1) ∧ (2#4).toNat = (1#4).toNat + 1 := by unfold State.runs; decide +kernel

theorem witness_IndexMoves :
    (Instr.xm4 (.l 0) (.g 0) (.long 9)).indexForm = some (2, true, .l 0, .g 0, .long 9) ∧
    calm.runs (limLength (.long 9)) true := by unfold State.runs; decide +kernel

theorem witness_ChecksNopAndFetch :
    calm.runs 1 true ∧ calm.runs 1 false ∧ calm.sr.h = false ∧ calm.delay = .none ∧ (slot 1).sr.h = false ∧ (slot 1).delay ≠ .none := by
  unfold State.runs; decide +kernel

theorem witness_Compares : calm.runs 1 true ∧ calm.runs (immLength (.high 0)) true := by unfold State.runs; decide +kernel

theorem witness_LeadingZerosAndStackAddress : calm.runs 1 false ∧ calm.runs 1 (Reg.isGlobal (.g 3)) := by unfold State.runs; decide +kernel

theorem witness_SetConditional : (Instr.setltM (.g 15)).setForm = some (.n, 0xFFFFFFFF, .g 15) ∧ calm.runs 1 (Reg.isGlobal (.g 15)) := by
  unfold State.runs; decide +kernel

/-- The example of 20_memory R116: a loop of 96 bytes stays in the cache, one of 98 does not; and with nothing prefetched beyond the branch
four half-words can be skipped, five cannot. -/
theorem test_branch_in_cache :
    let c : Cache := { Cache.reset with lookBack := 0x3000, lookAhead := 0x307C, empty := false }
    c.wf = true ∧ c.inReach (.short 0x60) 0x3000 = true ∧ c.inReach (.short 0x60) 0x2FFE = false ∧
    c.inReach (.short 5) 0x3086 = true ∧ c.inReach (.short 5) 0x3088 = false := by decide +kernel

/-- A store into code that is in the cache leaves the old word there (20_memory R120). -/
theorem test_store_into_cached_code :
    goes (start 0x00840000 [(0, 0x3108), (1, 5)] (encode (.stwR 0 (.l 1)))) (fun t =>
      t.cache.holds 0x3108 && t.cache.half 0x310A == 0 && t.valueAt .word 0x3108 == 5 && t.cache.lookAhead == 0x3120) = true := by
  decide +kernel

/-- A half-word configuration write at an odd address takes the even one (20_memory R93, R99). -/
theorem test_sdram_configuration :
    answers (({ calm with bus := { calm.bus with mcr := 0x3F9FFFFF } } : State).memWrite .half 0x30000047 9)
      (fun t => t.bus.sdcr == 0x30000046 && t.mem == calm.mem) = true := by decide +kernel

/-- An E1-16XS with BOOTB low starts MEM3 with 16 bits; 32 bits cannot be used on it (70 R584). -/
theorem test_e1_16xs :
    resetMcr (Variant.e1_16xs false).bootWidth = 0xFFFFFFBF ∧
    ({ calm with platform := { calm.platform with variant := .e1_16xs true }, bus := { calm.bus with mcr := 0xFFFFFF3F } } : State).areaRefusal
      .mem3 = some .busSizeUnusable := by decide +kernel

theorem witness_Branches :
    (Instr.bse (.long 4)).branchForm = some (.se, .long 4) ∧ calm.delay = .none ∧ Cond.se.holds calm.flags = false ∧
    Cond.ht.holds calm.flags = true ∧ (slot 1).delay ≠ .none := by decide +kernel

theorem witness_DelayedBranches :
    (Instr.dbht (.short 4)).delayedForm = some (.ht, .short 4) ∧ calm.delay = .none ∧ Cond.se.holds calm.flags = false ∧
    Cond.ht.holds calm.flags = true ∧ (slot 2).delay ≠ .none ∧ (slot 2).sr.ilc.toNat + 1 ≤ 3 ∧ 3 < (slot 2).sr.ilc.toNat + 2 := by decide +kernel

theorem witness_Call : calm.branches true ∧ (slot 1).delay ≠ .none ∧ ((slot 1).sr.h && true) = false := by
  unfold State.branches; decide +kernel

theorem witness_Traps :
    (Instr.traphe 63).trapForm = some (.nc, 63) ∧ calm.delay = .none ∧ Cond.nc.holds calm.flags = true ∧ Cond.c.holds calm.flags = false ∧
    trapEntry calm.bus.mcr 63 = .next 0xFFFFFFFC ∧ trapEntry 0x4000 63 = .refused .entryTableReserved ∧ (slot 1).delay ≠ .none :=
  ⟨rfl, by decide +kernel, by decide +kernel, by decide +kernel, rfl, rfl, by decide +kernel⟩

theorem witness_SoftwareInstructions :
    (Instr.softDo 1 2).softwareForm = some (15, 1, 2) ∧ calm.delay = .none ∧ softwareEntry calm.bus.mcr 15 = .next 0xFFFFFEF0 ∧
    softwareEntry 0x6000 15 = .refused .entryTableReserved ∧ (slot 1).delay ≠ .none :=
  ⟨rfl, by decide +kernel, rfl, rfl, by decide +kernel⟩

/-- A frame that fits, and one that two registers are missing for. -/
theorem witness_FrameInstruction :
    calm.runs 1 false ∧ 0 ≤ (calm.sp.extractLsb' 2 7 + 54 - (calm.sr.fp - (0#4).setWidth 7 + BitVec.ofNat 7 6) : BitVec 7).toInt ∧
    (crowded.sp.extractLsb' 2 7 + 54 - (crowded.sr.fp - (2#4).setWidth 7 + BitVec.ofNat 7 8) : BitVec 7).toInt = -2 ∧
    crowded.areaRefusal (areaOf crowded.sp) = none ∧ crowded.areaRefusal (areaOf (crowded.sp + 4)) = none := by
  unfold State.runs; decide +kernel

/-- Where the two words that `calm` would push lie. -/
theorem Tests.calm_cells : ∀ j, j < 2 → ∀ b, b < 4 →
    calm.cellOf (calm.sp + 4 * BitVec.ofNat 32 j + BitVec.ofNat 32 b) = calm.sp.toNat + 4 * j + b := by decide +kernel

theorem witness_PushedWords :
    calm.memWf = true ∧ calm.sp.extractLsb' 0 2 = 0 ∧
    (∀ j, j < 2 → ∀ b, b < 4 → calm.writable (calm.sp + 4 * BitVec.ofNat 32 j + BitVec.ofNat 32 b) = true) ∧
    (∀ j, j < 2 → ∀ b, b < 4 → isSdramConfig calm.bus.mcr (calm.sp + 4 * BitVec.ofNat 32 j + BitVec.ofNat 32 b) = false) ∧
    (∀ j b j' b', j < 2 → b < 4 → j' < 2 → b' < 4 →
      calm.cellOf (calm.sp + 4 * BitVec.ofNat 32 j + BitVec.ofNat 32 b) =
        calm.cellOf (calm.sp + 4 * BitVec.ofNat 32 j' + BitVec.ofNat 32 b') → j = j' ∧ b = b') := by
  refine ⟨by decide +kernel, by decide +kernel, by decide +kernel, by decide +kernel, ?_⟩
  intro j b j' b' hj hb hj' hb' h
  rw [calm_cells j hj b hb, calm_cells j' hj' b' hb'] at h
  omega

/-- A return that needs no word, and one that needs two. -/
theorem witness_Return :
    (Reg.l 3).notPcSr = true ∧ (Reg.g 15).notPcSr = true ∧ followSlot (.g 15) = none ∧ calm.branches true ∧
    followSlot (.l 3) = some (.loc 4) ∧
    (-((StatusReg.ofWord (calm.slotDuring 1 (.loc 4))).fp - calm.sp.extractLsb' 2 7).toInt).toNat = 0 ∧
    (-((StatusReg.ofWord (spilled.slotDuring 1 (.loc 1))).fp - spilled.sp.extractLsb' 2 7).toInt).toNat = 2 ∧
    spilled.readRefusal (spilled.sp - 4) = none ∧ spilled.readRefusal (spilled.sp - 8) = none := by
  unfold State.branches; decide +kernel

theorem witness_ReturnUndoesCall :
    calm.branches false ∧ calm.pc.getLsbD 0 = false ∧ 0 ≤ (calm.sr.fp - calm.sp.extractLsb' 2 7).toInt ∧
    ∃ t, exec (.call 3 (.l 0) (.short 4)) calm = .next t ∧ (t.pc == 0x1004) = true :=
  ⟨by unfold State.branches; decide +kernel, by decide +kernel, by decide +kernel, answers_next (by decide +kernel)⟩

theorem witness_ExtendedDsp : calm.delay = .none ∧ (slot 1).sr.ilc.toNat + 2 ≤ 3 := by decide +kernel

theorem witness_ReadsAreBigEndian :
    let s := withData calm
    let b : Nat → Byte := fun k => [0x12, 0xB4, 0xF6, 0x78].getD k 0
    s.byteAt 0x1000 = some (b 0) ∧ (∀ k, k < 2 → s.byteAt ((0x1001 &&& 0xFFFFFFFE) + BitVec.ofNat 32 k) = some (b k)) ∧
    (∀ k, k < 4 → s.byteAt ((0x1003 &&& 0xFFFFFFFC) + BitVec.ofNat 32 k) = some (b k)) := by decide +kernel

/-- RAM, and in a second state ROM. -/
theorem witness_StoreWritesItsBytes :
    let rom : AreaMap := { wrap := 0x4000, ranges := [{ first := 0, last := 0x3FFF, writable := false }] }
    let s : State := { calm with platform := { calm.platform with mem1 := rom } }
    s.memWf = true ∧
    (∀ k, k < 4 → ∀ j, j < 4 → s.cellOf (0x1000 + BitVec.ofNat 32 k) = s.cellOf (0x1000 + BitVec.ofNat 32 j) → k = j) ∧
    s.writable 0x1000 = true ∧ s.writable 0x40001000 = false ∧ ¬s.covers .word 0x1000 0x1004 ∧ ¬s.covers .word 0x1000 0x0FFF := by
  refine ⟨by decide +kernel, by decide +kernel, by decide +kernel, by decide +kernel, ?_, ?_⟩
  · rintro ⟨k, hk, h⟩; revert h
    match k, hk with
    | 0, _ => decide +kernel
    | 1, _ => decide +kernel
    | 2, _ => decide +kernel
    | 3, _ => decide +kernel
  · rintro ⟨k, hk, h⟩; revert h
    match k, hk with
    | 0, _ => decide +kernel
    | 1, _ => decide +kernel
    | 2, _ => decide +kernel
    | 3, _ => decide +kernel

theorem witness_StackAddressMode : (0x7FFF : Word).toNat < calm.sp.toNat ∧ calm.sp.toNat ≤ (0x8000 : Word).toNat := by decide +kernel

/-- A word and a double-word load; a forbidden register; an address register of zero; a next-address mode. -/
theorem witness_LoadsFromMemory :
    let x : Access := { type := .word, base := some (.l 0), dis := 4, bump := none, data := .l 1, len := 2 }
    let y : Access := { type := .double, base := some (.l 0), dis := 0, bump := some 8, data := .l 3, len := 1 }
    let z : Access := { type := .double, base := none, dis := 0x1000, bump := none, data := .g 13, len := 3 }
    let n : Access := { type := .halfS, base := some (.l 3), dis := 0, bump := some 6, data := .g 13, len := 2 }
    (Instr.ldwD (.l 0) (.l 1) (.short 1)).loadForm = some x ∧ (Instr.lddP 0 (.l 3)).loadForm = some y ∧
    (Instr.lddA (.g 13) (.long 0x400)).loadForm = some z ∧ (Instr.ldhsN (.l 3) (.g 13) (.short 3)).loadForm = some n ∧
    x.encodable = true ∧ y.encodable = true ∧ z.encodable = true ∧ n.encodable = true ∧
    calm.runs x.len x.global ∧ calm.runs y.len y.global ∧ calm.runs z.len z.global ∧ calm.runs n.len n.global ∧
    x.loadable = true ∧ x.nullPointer calm = false ∧ calm.readable (x.baseOf calm) (x.addressOf calm) ∧ x.type.isDouble = false ∧
    y.loadable = true ∧ y.nullPointer calm = false ∧ calm.readable (y.baseOf calm) (y.addressOf calm) ∧
    calm.readable (y.baseOf calm) (y.addressOf calm + 4) ∧ y.type.isDouble = true ∧ followSlot y.data = some (.loc 4) ∧
    z.loadable = false ∧ n.loadable = true ∧ n.nullPointer calm = true := by
  unfold State.runs State.readable; decide +kernel

/-- A byte out of the signed range and one within it; a double-word of zeros; an address register of zero; G15 as a pair. -/
theorem witness_StoresToMemory :
    let x : Access := { type := .byteS, base := some (.l 0), dis := 3, bump := none, data := .l 0, len := 2 }
    let y : Access := { type := .double, base := some (.l 0), dis := 0, bump := some 8, data := .g 1, len := 1 }
    let z : Access := { type := .double, base := some (.l 3), dis := 0, bump := none, data := .g 15, len := 1 }
    (Instr.stbsD (.l 0) (.l 0) (.short 3)).storeForm = some x ∧ (Instr.stdP 0 (.g 1)).storeForm = some y ∧
    (Instr.stdR 3 (.g 15)).storeForm = some z ∧ x.encodable = true ∧ y.encodable = true ∧ z.encodable = true ∧
    calm.runs x.len x.global ∧ calm.runs y.len y.global ∧ calm.runs z.len z.global ∧
    x.type.isDouble = false ∧ x.nullPointer calm = false ∧ calm.storable (x.baseOf calm) (x.addressOf calm) ∧
    ¬(calm.stored x.len x.data).toInt ≤ 127 ∧ (calm.stored 1 (.l 1)).toInt ≤ 127 ∧
    y.type.isDouble = true ∧ y.data.isSr = true ∧ y.nullPointer calm = false ∧ calm.storable (y.baseOf calm) (y.addressOf calm) ∧
    calm.storable (y.baseOf calm) (y.addressOf calm + 4) ∧
    z.data.isSr = false ∧ followSlot z.data = none ∧ z.nullPointer calm = true := by
  unfold State.runs State.storable; decide +kernel

/-- Below SP, at SP, zero. -/
theorem witness_StackModeInstructions :
    (Reg.l 0).notPcSr = true ∧ calm.runs (disWLength (.short 1)) true ∧ calm.operand 2 (.l 0) ≠ 0 ∧
    (calm.operand 2 (.l 0)).toNat < calm.sp.toNat ∧ calm.readRefusal (calm.operand 2 (.l 0)) = none ∧
    calm.areaRefusal (areaOf (calm.operand 2 (.l 0))) = none ∧ calm.operand 2 (.l 3) = 0 ∧
    calm.sp.toNat ≤ (calm.operand 2 (.l 2)).toNat := by unfold State.runs; decide +kernel

/-- A device; a power address, then a device; an undefined internal address. -/
theorem witness_LoadsFromIo :
    let x : Access := { type := .word, base := some (.l 0), dis := 0, bump := none, data := .l 1, len := 2 }
    let y : Access := { type := .double, base := none, dis := 0xFFFFFFFC, bump := none, data := .l 1, len := 3 }
    let u := calm.underway 3 0 calm.flags
    (Instr.ldwIod (.l 0) (.l 1) (.short 0)).ioLoadForm = some x ∧ (Instr.lddIoa (.l 1) (.long 0x7FFFFFF)).ioLoadForm = some y ∧
    calm.runs x.len x.global ∧ calm.runs y.len y.global ∧ x.loadable = true ∧ x.nullPointer calm = false ∧ x.type.isDouble = false ∧
    ((calm.underway 2 0 calm.flags).ioLoaded (x.addressOf calm &&& 0xFFFFFFFC)).isSome = true ∧
    y.loadable = true ∧ y.nullPointer calm = false ∧ y.type.isDouble = true ∧ followSlot y.data = some (.loc 2) ∧
    (u.ioLoaded (y.addressOf calm &&& 0xFFFFFFFC)).isSome = true ∧ (u.ioLoaded ((y.addressOf calm + 4) &&& 0xFFFFFFFC)).isSome = true ∧
    (u.ioLoaded 0x08000000).isNone = true ∧ (u.ioLoaded 0x0BC00000).isSome = true := by unfold State.runs; decide +kernel

theorem witness_StoresToIo :
    let x : Access := { type := .word, base := some (.l 0), dis := 0, bump := none, data := .g 1, len := 2 }
    let y : Access := { type := .double, base := some (.l 3), dis := 0, bump := none, data := .l 1, len := 2 }
    let z : Access := { type := .double, base := some (.l 0), dis := 0, bump := none, data := .g 15, len := 2 }
    let u := calm.underway 2 0 calm.flags
    (Instr.stwIod (.l 0) (.g 1) (.short 0)).ioStoreForm = some x ∧ (Instr.stdIod (.l 3) (.l 1) (.short 0)).ioStoreForm = some y ∧
    (Instr.stdIod (.l 0) (.g 15) (.short 0)).ioStoreForm = some z ∧ z.data.isSr = false ∧ followSlot z.data = none ∧
    calm.runs x.len x.global ∧ calm.runs y.len y.global ∧ x.type.isDouble = false ∧ x.nullPointer calm = false ∧
    (u.ioStored (x.addressOf calm &&& 0xFFFFFFFC) 0).isSome = true ∧ y.type.isDouble = true ∧ y.data.isSr = false ∧
    followSlot y.data = some (.loc 2) ∧ y.nullPointer calm = true ∧ z.nullPointer calm = false ∧
    (u.ioStored 0x0BC00000 0).isSome = true ∧ (u.ioStored 0x0BC00004 0).isSome = true ∧ (u.ioStored 0x08000000 0).isNone = true := by
  unfold State.runs; decide +kernel

/-- The E1-16XS shows a device A21..A0 alone, the E1-32XS A25..A0 (20 R109); bit 27 names an internal access on both (R110). -/
theorem test_io_pins :
    let s : State := { calm with platform := { calm.platform with variant := .e1_16xs true } }
    answers (s.ioWrite 0x00C00804 7) (fun t => t.ioLog == [.write 0x804 7]) = true ∧
    answers (calm.ioWrite 0x04C00807 7) (fun t => t.ioLog == [.write 0xC00804 7]) = true ∧
    answers (s.ioWrite 0x0BC00000 0) (fun t => t.ioLog == [] && t.power == .sleep) = true := by decide +kernel

theorem witness_RegisterInstructionsFrame :
    (Instr.add (.l 1) (.l 2)).accessesMemory = false ∧ calm.sr.h = false ∧ ∃ t, exec (.add (.l 1) (.l 2)) calm = .next t ∧ (!t.sr.z) = true :=
  ⟨by decide, by decide +kernel, answers_next (by decide +kernel)⟩

theorem witness_ResultRegistersFrame :
    (Instr.mulu (.l 1) (.l 2)).dest = some (.l 1) ∧ (Instr.mulu (.l 1) (.l 2)).isPair = true ∧ calm.sr.h = false ∧
    (∃ t, exec (.mulu (.l 1) (.l 2)) calm = .next t ∧ (t.readLocal 1 == 2) = true) ∧
    ∃ t, exec (.adds (.l 2) (.l 2)) calm = .next t ∧ raised t = true :=
  ⟨by decide, by decide, by decide +kernel, answers_next (by decide +kernel), answers_next (by decide +kernel)⟩

theorem witness_MemoryInstructionsFrame :
    (Instr.stwR 0 (.l 1)).storeForm = some { type := .word, base := some (.l 0), dis := 0, bump := none, data := .l 1, len := 1 } ∧
    (∃ t, exec (.stwR 0 (.l 1)) calm = .next t ∧ (t.valueAt .word 0x1000 == 5) = true) ∧
    (Instr.ldwR 0 (.l 1)).loadForm.isSome = true ∧ (∃ t, exec (.ldwR 0 (.l 1)) calm = .next t ∧ (t.readLocal 1 == 0) = true) ∧
    ¬calm.covers .word 0x1000 0x1004 := by
  refine ⟨by decide, answers_next (by decide +kernel), by decide, answers_next (by decide +kernel), ?_⟩
  rintro ⟨k, hk, h⟩; revert h
  match k, hk with
  | 0, _ => decide +kernel
  | 1, _ => decide +kernel
  | 2, _ => decide +kernel
  | 3, _ => decide +kernel

theorem witness_FormsWithoutMeaning :
    (Instr.ldwR 0 (.g 3)).wellFormed = true ∧ high.sr.h = true ∧ (Instr.ldwR 0 (.g 3)).isMove = false ∧ (Instr.ldwR 0 (.g 3)).namesGlobal = true ∧
    (slot 1).delay ≠ .none ∧ (slot 1).sr.h = false ∧ (Instr.trap 5).mustNotDelay false = true ∧
    (Instr.mask (.l 1) (.l 2) (.long 5)).mustNotDelay false = false ∧
    3 < (slot 1).sr.ilc.toNat + (encode (.mask (.l 1) (.l 2) (.long 5))).length := by decide +kernel

end
end

/-! ## Frames: what an instruction that reads and writes registers alone changes (00_scope R10)

`SameOutside` is carried along each operation of the machine; `ChangesOnly` says moreover which registers are written, as a list of slots,
and is what the shapes of Machine/Alu.lean and Machine/Shift.lean leave. -/

namespace Sys2Proof.Machine

/-! ### Nothing but PC, SR, L0 to L63 and G2 to G15 -/

/-- A state that differs only in what `SameOutside` leaves open. -/
theorem State.SameOutside.of_frame {s t : State}
    (h : t = { s with pc := t.pc, sr := t.sr, g := t.g, locals := t.locals, eovPending := t.eovPending, delay := t.delay,
                      callLockout := t.callLockout, cache := t.cache, draws := t.draws }) : s.SameOutside t := by
  rw [h]; exact ⟨rfl, rfl, rfl, rfl, rfl, rfl, ⟨rfl, rfl⟩, rfl, rfl, rfl, rfl, rfl, rfl, fun _ => rfl⟩

theorem State.SameOutside.trans {s t u : State} (h : s.SameOutside t) (h' : t.SameOutside u) : s.SameOutside u where
  sp := h'.sp.trans h.sp
  ub := h'.ub.trans h.ub
  fcr := h'.fcr.trans h.fcr
  timer := h'.timer.trans h.timer
  io3 := h'.io3.trans h.io3
  bus := h'.bus.trans h.bus
  resetFlags := ⟨h'.resetFlags.1.trans h.resetFlags.1, h'.resetFlags.2.trans h.resetFlags.2⟩
  power := h'.power.trans h.power
  pins := h'.pins.trans h.pins
  platform := h'.platform.trans h.platform
  io := h'.io.trans h.io
  lost := h'.lost.trans h.lost
  parity := h'.parity.trans h.parity
  bytes := fun a => (h'.bytes a).trans (h.bytes a)

theorem State.settle_sameOutside (s : State) (d : Delay) : s.SameOutside (s.settle d) := by
  unfold State.settle; split <;> exact .of_frame rfl

/-- Entering an error exception saves PC and SR in local registers. -/
theorem raises_sameOutside {s u t : State} (h : s.raises u = .next t) : u.SameOutside t := by
  obtain ⟨e, -, rfl⟩ := takeException_inv h
  exact .of_frame rfl

/-- The two ends of an instruction that has reached `u` (60 R474). -/
theorem ends_sameOutside {s u t : State} (h : t = u.settle s.delay ∨ s.raises u = .next t) : u.SameOutside t := by
  rcases h with rfl | h
  · exact u.settle_sameOutside s.delay
  · exact raises_sameOutside h

/-! ### Nothing but the status and the registers of a list -/

/-- `t` is `s` with no local register and no one of G2 to G15 changed but those that the list names, and of the SR no more than the flags, P, H, M and
ILC, or, where the list names the SR, its bits 15..0 (10_state R27). -/
structure State.ChangesOnly (written : List Slot) (s t : State) : Prop where
  outside : s.SameOutside t
  locals : ∀ j : Fin 64, (∀ k, .loc k ∈ written → j ≠ s.localIndex k) → t.locals[j] = s.locals[j]
  globals : ∀ j : Fin 14, (∀ c, .glob c ∈ written → j ≠ globalIndex c) → t.g[j] = s.g[j]
  fp : t.sr.fp = s.sr.fp
  fl : t.sr.fl = s.sr.fl
  supervisor : t.sr.s = s.sr.s
  trace : t.sr.t = s.sr.t
  low : .sr ∉ written →
    t.sr.l = s.sr.l ∧ t.sr.i = s.sr.i ∧ t.sr.frm = s.sr.frm ∧ t.sr.fte = s.sr.fte ∧ t.sr.r6 = s.sr.r6

namespace State.ChangesOnly

variable {s t u : State} {w : List Slot}

theorem localIndex (h : s.ChangesOnly w t) (k : Nat) : t.localIndex k = s.localIndex k := by
  simp only [State.localIndex, h.fp]

theorem trans (h : s.ChangesOnly w t) (h' : t.ChangesOnly w u) : s.ChangesOnly w u where
  outside := h.outside.trans h'.outside
  locals := fun j hj => (h'.locals j fun k hk => h.localIndex k ▸ hj k hk).trans (h.locals j hj)
  globals := fun j hj => (h'.globals j hj).trans (h.globals j hj)
  fp := h'.fp.trans h.fp
  fl := h'.fl.trans h.fl
  supervisor := h'.supervisor.trans h.supervisor
  trace := h'.trace.trans h.trace
  low := fun hs => by
    obtain ⟨l, i, frm, fte, r6⟩ := h.low hs
    obtain ⟨l', i', frm', fte', r6'⟩ := h'.low hs
    exact ⟨l'.trans l, i'.trans i, frm'.trans frm, fte'.trans fte, r6'.trans r6⟩

/-- A state that differs in PC, in the flags, P, H, M and ILC, in the delay, lockout and cache states and in the free values used. -/
theorem of_status
    (h : t = { s with
                pc := t.pc, delay := t.delay, callLockout := t.callLockout, cache := t.cache, draws := t.draws
                sr := { s.sr with c := t.sr.c, z := t.sr.z, n := t.sr.n, v := t.sr.v, m := t.sr.m, h := t.sr.h, p := t.sr.p, ilc := t.sr.ilc } }) :
    s.ChangesOnly w t := by
  rw [h]; exact ⟨.of_frame rfl, fun _ _ => rfl, fun _ _ => rfl, rfl, rfl, rfl, rfl, fun _ => ⟨rfl, rfl, rfl, rfl, rfl⟩⟩

end State.ChangesOnly

theorem State.underway_changesOnly (s : State) (len k : Nat) (f : Flags) (w : List Slot) : s.ChangesOnly w (s.underway len k f) := by
  unfold State.underway State.srDuring State.nextPc; split <;> exact .of_status rfl

theorem State.writeLocal_changesOnly {w : List Slot} (s : State) {k : Nat} (v : Word) (hk : .loc k ∈ w) : s.ChangesOnly w (s.writeLocal k v) where
  outside := .of_frame rfl
  locals := fun j hj => Vector.getElem_set_ne (s.localIndex k).isLt j.isLt fun hc => hj k hk (Fin.ext hc.symm)
  globals := fun _ _ => rfl
  fp := rfl
  fl := rfl
  supervisor := rfl
  trace := rfl
  low := fun _ => ⟨rfl, rfl, rfl, rfl, rfl⟩

theorem State.writeGlobal_changesOnly {w : List Slot} (s : State) {c : BitVec 4} (v : Word) (hc : .glob c ∈ w) :
    s.ChangesOnly w (s.writeGlobal c v) where
  outside := .of_frame rfl
  locals := fun _ _ => rfl
  globals := fun j hj => Vector.getElem_set_ne (globalIndex c).isLt j.isLt fun he => hj c hc (Fin.ext he.symm)
  fp := rfl
  fl := rfl
  supervisor := rfl
  trace := rfl
  low := fun _ => ⟨rfl, rfl, rfl, rfl, rfl⟩

theorem State.writeSr_changesOnly {w : List Slot} (s : State) (v : Word) (hs : .sr ∈ w) : s.ChangesOnly w (s.writeSr v).1 where
  outside := .of_frame rfl
  locals := fun _ _ => rfl
  globals := fun _ _ => rfl
  fp := rfl
  fl := rfl
  supervisor := rfl
  trace := rfl
  low := fun hn => absurd hs hn

theorem State.writeSlot_changesOnly {w : List Slot} (s : State) (v : Word) {x : Slot} (hx : x ∈ w) : s.ChangesOnly w (s.writeSlot v x) := by
  cases x with
  | loc k => exact s.writeLocal_changesOnly v hx
  | pc => exact .of_status rfl
  | sr => exact s.writeSr_changesOnly v hx
  | glob c => exact s.writeGlobal_changesOnly v hx

/-! ### Results (10_state R61, R62) -/

/-- The slots of a double-word result: Rd and the register following it; there is no result where Rd denotes the PC (93 U12). -/
def pairSlots (rd : Reg) : List Slot := bif rd.isPc then [] else regSlot rd :: (followSlot rd).toList

theorem pairSlots_local (c : BitVec 4) : pairSlots (.l c) = [.loc c.toNat, .loc (c.toNat + 1)] := rfl

/-- The slots that take the result of an instruction whose result register is `rd`. -/
def resultSlots (i : Instr) (rd : Reg) : List Slot := bif i.isPair then pairSlots rd else [regSlot rd]

theorem withFollower_inv {α : Type} {r : Reg} {f : Slot → Out α} {b : α} (h : withFollower r f = .next b) :
    ∃ x, followSlot r = some x ∧ f x = .next b := by
  unfold withFollower at h
  split at h
  · exact ⟨_, by assumption, h⟩
  · cases h

theorem writeResult_changesOnly {w : List Slot} {s u : State} {rd : Reg} {v : Word} {f : Flags} {e : Bool}
    (h : s.writeResult rd v f = .next (u, e)) (hw : regSlot rd ∈ w) : s.ChangesOnly w u := by
  have flags (t : State) : t.ChangesOnly w (t.setFlags f) := .of_status rfl
  unfold State.writeResult at h
  split at h <;> rename_i hr <;> rw [hr] at hw
  · cases h; exact (s.writeLocal_changesOnly v hw).trans (flags _)
  · cases h; exact (s.writeGlobal_changesOnly v hw).trans (flags _)
  · obtain ⟨rfl, -⟩ := Prod.mk.inj (Host.Outcome.next.inj h); exact s.writeSr_changesOnly v hw
  · cases h

theorem writeOrBranch_changesOnly {s u : State} {rd : Reg} {v : Word} {f : Flags} {e : Bool}
    (h : s.writeOrBranch rd v f = .next (u, e)) : s.ChangesOnly [regSlot rd] u := by
  unfold State.writeOrBranch at h
  split at h
  · cases h; exact .of_status rfl
  · exact writeResult_changesOnly h (List.mem_singleton.mpr rfl)

theorem writePair_changesOnly {s u : State} {rd : Reg} {hi lo : Word} {f : Flags} {e : Bool}
    (h : s.writePair rd hi lo f = .next (u, e)) : s.ChangesOnly (pairSlots rd) u := by
  obtain ⟨rdf, hf, h⟩ := withFollower_inv h
  obtain ⟨⟨t, e'⟩, ht, h⟩ := andThen_inv h
  cases h
  have hp : rd.isPc = false := by
    cases hp : rd.isPc with
    | false => rfl
    | true => cases regSlot_pc hp; cases ht
  have hs : pairSlots rd = [regSlot rd, rdf] := by simp [pairSlots, hp, hf]
  exact (writeResult_changesOnly ht (by simp [hs])).trans (t.writeSlot_changesOnly lo (by simp [hs]))

/-! ### Instructions -/

/-- `t` is an end of an instruction that, begun at `s`, reaches a state in which no registers but those of the list have changed: that state
settled, or the entry of the error exception it raises. -/
def State.EndsChanging (s : State) (written : List Slot) (t : State) : Prop :=
  ∃ u : State, (t = u.settle s.delay ∨ s.raises u = .next t) ∧ s.ChangesOnly written u

theorem State.EndsChanging.sameOutside {s t : State} {w : List Slot} (h : s.EndsChanging w t) : s.SameOutside t := by
  obtain ⟨u, he, hu⟩ := h
  exact hu.outside.trans (ends_sameOutside he)

section

variable {len k : Nat} {g b : Bool} {s t : State} {rd rs : Reg}

/-- What an instruction changes is what its body does. -/
theorem instruction_changes {w : List Slot} {body : State → State → Out (State × Bool)} (h : instruction len g b s body = .next t)
    (hb : ∀ r v u e, body r v = .next (u, e) → v.ChangesOnly w u) : s.EndsChanging w t := by
  obtain ⟨-, u, e, hu, he⟩ := instruction_inv h
  exact ⟨u, he.imp And.right And.right, (s.underway_changesOnly ..).trans (hb _ _ _ _ hu)⟩

theorem drawn_changesOnly (s : State) (k : Nat) (w : List Slot) : s.ChangesOnly w (s.drawn k) := .of_status rfl

theorem compute_changes {f : State → AluResult} (h : compute len g rd k s f = .next t) : s.EndsChanging [regSlot rd] t :=
  instruction_changes h fun r v u e hu => by
    obtain ⟨⟨x, e'⟩, hx, hu⟩ := andThen_inv hu
    cases hu
    exact (drawn_changesOnly v k _).trans (writeResult_changesOnly hx (List.mem_singleton.mpr rfl))

theorem logical_changes {f : State → Word} (h : logical len g rd s f = .next t) : s.EndsChanging [regSlot rd] t := compute_changes h

theorem setIf_changes {cond : Cond} {yes : Word} (h : setIf cond yes rd s = .next t) : s.EndsChanging [regSlot rd] t := compute_changes h

theorem indexMove_changes {lim : Lim} (h : indexMove k rd rs lim s = .next t) : s.EndsChanging [regSlot rd] t := compute_changes h

theorem indexScale_changes {lim : Lim} (h : indexScale k rd rs lim s = .next t) : s.EndsChanging [regSlot rd] t := compute_changes h

theorem computeOrBranch_changes {f : State → AluResult} (h : computeOrBranch len g rd k s f = .next t) : s.EndsChanging [regSlot rd] t :=
  instruction_changes h fun _ v _ _ hu => (drawn_changesOnly v k _).trans (writeOrBranch_changesOnly hu)

theorem computePair_changes {f : State → Slot → AluPair} (h : computePair g rd k s f = .next t) : s.EndsChanging (pairSlots rd) t :=
  instruction_changes h fun r v u e hu => by
    obtain ⟨rdf, -, hu⟩ := withFollower_inv hu
    obtain ⟨⟨x, e'⟩, hx, hu⟩ := andThen_inv hu
    cases hu
    exact (drawn_changesOnly v k _).trans (writePair_changesOnly hx)

theorem anySingle_changes {f : State → Flags} (h : anySingle rd rs s f = .next t) : s.EndsChanging [regSlot rd] t :=
  instruction_changes h fun _ v _ _ hu => (drawn_changesOnly v 2 _).trans (writeResult_changesOnly hu (List.mem_singleton.mpr rfl))

theorem anyPair_changes {f : State → Flags} (h : anyPair rd rs s f = .next t) : s.EndsChanging (pairSlots rd) t :=
  instruction_changes h fun _ v _ _ hu => (drawn_changesOnly v 3 _).trans (writePair_changesOnly hu)

theorem shiftPair_changes {ld : BitVec 4} {value : BitVec 64 → State → BitVec 64} {flags : BitVec 64 → State → Flags}
    (h : shiftPair ld k s value flags = .next t) : s.EndsChanging (pairSlots (.l ld)) t :=
  instruction_changes h fun r v u e hu => by
    cases hu
    have low (x : State) (lo : Word) : x.ChangesOnly (pairSlots (.l ld)) (x.writeLocal (ld.toNat + 1) lo) :=
      x.writeLocal_changesOnly lo (by simp [pairSlots_local])
    have flags (x : State) (f : Flags) : x.ChangesOnly (pairSlots (.l ld)) (x.setFlags f) := .of_status rfl
    exact (drawn_changesOnly v k _).trans ((State.writeLocal_changesOnly _ _ List.mem_cons_self).trans ((low _ _).trans (flags _ _)))

theorem mov_changes (hh : s.sr.h = false) (h : execMov rd rs s = .next t) : s.EndsChanging [regSlot rd] t := by
  unfold execMov at h; rw [if_neg (by simp [hh])] at h
  exact computeOrBranch_changes h

theorem movi_changes {imm : Imm} (hh : s.sr.h = false) (h : execMovi rd imm s = .next t) : s.EndsChanging [regSlot rd] t := by
  unfold execMovi at h; rw [if_neg (by simp [hh])] at h
  exact computeOrBranch_changes h

theorem movd_changes (h : execMovd rd rs s = .next t) : s.EndsChanging (pairSlots rd) t := by
  unfold execMovd at h
  split at h
  · exact computePair_changes h
  · refine instruction_changes h fun r v u e hu => ?_
    obtain ⟨rsf, -, hu⟩ := withFollower_inv hu
    exact (drawn_changesOnly v 1 _).trans (writePair_changesOnly hu)

theorem mul_changes (h : execMul rd rs s = .next t) : s.EndsChanging [regSlot rd] t := by
  unfold execMul at h
  split at h
  · exact anySingle_changes h
  · exact compute_changes h

/-- A multiplication or division with a double-word result, by whether an operand denotes the PC or the SR (93 U33). -/
theorem anyOrPair_changes {c : Bool} {f : State → Flags} {f' : State → Slot → AluPair}
    (h : (if c then anyPair rd rs s f else computePair g rd k s f') = .next t) : s.EndsChanging (pairSlots rd) t := by
  split at h
  · exact anyPair_changes h
  · exact computePair_changes h

/-- A shift of a local pair by a register, by whether the count lies in the pair (93 U35). -/
theorem anyOrShift_changes {c : Bool} {ld : BitVec 4} {any : State → Flags} {value : BitVec 64 → State → BitVec 64}
    {flags : BitVec 64 → State → Flags} (h : (if c then anyShift ld s any else shiftPair ld k s value flags) = .next t) :
    s.EndsChanging (pairSlots (.l ld)) t := by
  split at h <;> exact shiftPair_changes h

end

/-- An instruction with a result register changes that register, or the pair that it begins, and the status. -/
theorem exec_changes_result {i : Instr} {rd : Reg} {s t : State} (hd : i.dest = some rd)
    (hh : s.sr.h = true → (∀ r rs, i ≠ .mov r rs) ∧ ∀ r imm, i ≠ .movi r imm) (h : exec i s = .next t) :
    s.EndsChanging (resultSlots i rd) t := by
  cases i with
  | mov r rs =>
    cases hd
    dsimp only [exec] at h
    exact mov_changes (Bool.eq_false_iff.mpr fun hs => (hh hs).1 _ _ rfl) h
  | movi r imm =>
    cases hd
    dsimp only [exec] at h
    exact movi_changes (Bool.eq_false_iff.mpr fun hs => (hh hs).2 _ _ rfl) h
  | add | addi | addiCz | sum | sub => cases hd; dsimp only [exec] at h; exact computeOrBranch_changes h
  | adds | addc | addsi | addsiCz | sums | subs | subc | neg | negs | shri | sari | shli | shl | sar | shr | rol | testlz | setadr =>
    cases hd; dsimp only [exec] at h; exact compute_changes h
  | and | andn | or | xor | not | andni | ori | xori | mask => cases hd; dsimp only [exec] at h; exact logical_changes h
  | xm1 | xm2 | xm4 | xm8 => cases hd; dsimp only [exec] at h; exact indexMove_changes h
  | xx1 | xx2 | xx4 | xx8 => cases hd; dsimp only [exec] at h; exact indexScale_changes h
  | set1 | set0 | setle | setgt | setlt | setge | setse | setht | setst | sethe | sete | setne | setv | setnv
  | set1M | setleM | setgtM | setltM | setgeM | setseM | sethtM | setstM | setheM | seteM | setneM | setvM | setnvM =>
    cases hd; dsimp only [exec] at h; exact setIf_changes h
  | mul => cases hd; dsimp only [exec] at h; exact mul_changes h
  | muls | mulu | divs | divu => cases hd; dsimp only [exec] at h; exact anyOrPair_changes h
  | movd => cases hd; dsimp only [exec] at h; exact movd_changes h
  | shldi | sardi | shrdi => cases hd; dsimp only [exec] at h; exact shiftPair_changes h
  | shld | sard | shrd => cases hd; dsimp only [exec] at h; exact anyOrShift_changes h
  | _ => cases hd

/-! ### The registers that the slots of a result stand for -/

theorem mem_resultSlots {i : Instr} {rd : Reg} {x : Slot} (h : x ∈ resultSlots i rd) :
    x = regSlot rd ∨ (i.isPair = true ∧ rd.isPc = false ∧ followSlot rd = some x) := by
  cases hp : i.isPair <;> cases hr : rd.isPc <;> simp_all [resultSlots, pairSlots]

theorem regSlot_loc {r : Reg} {k : Nat} (h : regSlot r = .loc k) : ∃ c, r = .l c ∧ k = c.toNat := by
  cases r with
  | l c => cases h; exact ⟨c, rfl, rfl⟩
  | g c =>
    simp only [regSlot] at h
    split at h
    · cases h
    · split at h <;> cases h

theorem followSlot_loc {r : Reg} {k : Nat} (h : followSlot r = some (.loc k)) : ∃ c, r = .l c ∧ k = c.toNat + 1 := by
  cases r with
  | l c => cases h; exact ⟨c, rfl, rfl⟩
  | g c =>
    simp only [followSlot] at h
    split at h
    · cases h
    · split at h <;> cases h

theorem regSlot_glob {r : Reg} {c : BitVec 4} (h : regSlot r = .glob c) : ∃ d, r = .g d ∧ (globalIndex c).val + 2 = d.toNat := by
  cases r with
  | l d => cases h
  | g d => exact ⟨d, rfl, by revert c d; decide⟩

theorem followSlot_glob {r : Reg} {c : BitVec 4} (h : followSlot r = some (.glob c)) :
    ∃ d, r = .g d ∧ (globalIndex c).val + 1 = d.toNat := by
  cases r with
  | l d => cases h
  | g d => exact ⟨d, rfl, by revert c d; decide⟩

theorem regSlot_eq_sr {r : Reg} (h : regSlot r = .sr) : r = .g 1 := by
  cases r with
  | l c => cases h
  | g c => revert c; decide

/-- The local registers among the slots of a result (10_state R60, R61). -/
theorem loc_mem_resultSlots {i : Instr} {rd : Reg} {k : Nat} (h : .loc k ∈ resultSlots i rd) :
    ∃ c, rd = .l c ∧ (k = c.toNat ∨ i.isPair = true ∧ k = c.toNat + 1) := by
  rcases mem_resultSlots h with hx | ⟨hp, -, hx⟩
  · obtain ⟨c, hr, hk⟩ := regSlot_loc hx.symm; exact ⟨c, hr, .inl hk⟩
  · obtain ⟨c, hr, hk⟩ := followSlot_loc hx; exact ⟨c, hr, .inr ⟨hp, hk⟩⟩

/-- Those of G2 to G15 among them, by their places in the register file. -/
theorem glob_mem_resultSlots {i : Instr} {rd : Reg} {c : BitVec 4} (h : .glob c ∈ resultSlots i rd) :
    ∃ d, rd = .g d ∧ ((globalIndex c).val + 2 = d.toNat ∨ i.isPair = true ∧ (globalIndex c).val + 1 = d.toNat) := by
  rcases mem_resultSlots h with hx | ⟨hp, -, hx⟩
  · obtain ⟨d, hr, hd⟩ := regSlot_glob hx.symm; exact ⟨d, hr, .inl hd⟩
  · obtain ⟨d, hr, hd⟩ := followSlot_glob hx; exact ⟨d, hr, .inr ⟨hp, hd⟩⟩

/-- The SR is among them only where it is the result register: a pair that begins at the PC is no result. -/
theorem sr_mem_resultSlots {i : Instr} {rd : Reg} (h : .sr ∈ resultSlots i rd) : rd = .g 1 := by
  rcases mem_resultSlots h with hx | ⟨-, hp, hx⟩
  · exact regSlot_eq_sr hx.symm
  · rw [followSlot_sr hx] at hp; cases hp

/-- Settles O58: each shape of instruction writes no slots but those of its result. -/
theorem resultRegistersFrame : Obligations.ResultRegistersFrame := by
  intro i rd s t hd hh h
  obtain ⟨u, he, hu⟩ := exec_changes_result hd hh h
  refine ⟨u, he, fun j hj => hu.locals j fun k hk => ?_, fun j hj => hu.globals j fun c hc => ?_, hu.fp, hu.fl, hu.supervisor, hu.trace,
    fun hr => hu.low fun hs => hr (sr_mem_resultSlots hs)⟩
  · obtain ⟨c, rfl, rfl | ⟨hp, rfl⟩⟩ := loc_mem_resultSlots hk
    · exact (hj c rfl).1
    · exact (hj c rfl).2 hp
  · rintro rfl
    obtain ⟨d, rfl, hd | ⟨hp, hd⟩⟩ := glob_mem_resultSlots hc
    · exact (hj d rfl).1 hd
    · exact (hj d rfl).2 hp hd

/-! ### Instructions without a result register -/

section

variable {len : Nat} {g b : Bool} {s t : State}

theorem instruction_sameOutside {body : State → State → Out (State × Bool)} (h : instruction len g b s body = .next t)
    (hb : ∀ r v u e, body r v = .next (u, e) → v.SameOutside u) : s.SameOutside t := by
  obtain ⟨-, u, e, hu, he⟩ := instruction_inv h
  exact ((s.underway_changesOnly len 0 s.flags []).outside.trans (hb _ _ _ _ hu)).trans (ends_sameOutside (he.imp And.right And.right))

theorem computeFlags_sameOutside {f : State → Flags} (h : computeFlags len g s f = .next t) : s.SameOutside t :=
  instruction_sameOutside h fun _ _ _ _ hu => by cases hu; exact .of_frame rfl

theorem check_sameOutside {f : State → Bool} (h : check g s f = .next t) : s.SameOutside t :=
  instruction_sameOutside h fun _ _ _ _ hu => by cases hu; exact .of_frame rfl

theorem branch_sameOutside {cond : Cond} {rel : Rel} (h : branch cond rel s = .next t) : s.SameOutside t :=
  instruction_sameOutside h fun _ _ _ _ hu => by split at hu <;> cases hu <;> exact .of_frame rfl

theorem delayedBranch_sameOutside {cond : Cond} {rel : Rel} (h : delayedBranch cond rel s = .next t) : s.SameOutside t := by
  unfold delayedBranch misplacedBranch at h
  split at h <;> exact instruction_sameOutside h fun _ _ _ _ hu => by split at hu <;> cases hu <;> exact .of_frame rfl

theorem call_sameOutside {ld : BitVec 4} {rs : Reg} {const : Const} (h : execCall ld rs const s = .next t) : s.SameOutside t :=
  instruction_sameOutside h fun _ _ _ _ hu => by cases hu; exact .of_frame rfl

theorem trapIf_sameOutside {cond : Cond} {n : BitVec 6} (h : trapIf cond n s = .next t) : s.SameOutside t :=
  instruction_sameOutside h fun r v u e hu => by
    split at hu
    · obtain ⟨entry, -, hu⟩ := andThen_inv hu
      cases hu; exact .of_frame rfl
    · cases hu; exact .of_frame rfl

theorem software_sameOutside {op ld ls : BitVec 4} (h : software op ld ls s = .next t) : s.SameOutside t :=
  instruction_sameOutside h fun r v u e hu => by
    obtain ⟨entry, -, hu⟩ := andThen_inv hu
    cases hu; exact .of_frame rfl

theorem dsp_sameOutside {ld ls : BitVec 4} {f : DspIn → DspOut} (h : dsp ld ls b s f = .next t) : s.SameOutside t :=
  instruction_sameOutside h fun _ _ _ _ hu => by cases hu; exact .of_frame rfl

theorem fetch_sameOutside {k : BitVec 4} (h : execFetch k s = .next t) : s.SameOutside t :=
  instruction_sameOutside h fun _ _ _ _ hu => by cases hu; exact .of_frame rfl

end

/-- The instructions that have no result register and access no memory. -/
theorem exec_sameOutside_of_no_result {i : Instr} {s t : State} (hd : i.dest = none) (hm : i.accessesMemory = false)
    (hf : ∀ ld ls, i ≠ .frame ld ls) (hr : ∀ rs, i ≠ .ret rs) (h : exec i s = .next t) : s.SameOutside t := by
  cases i with
  | frame ld ls => exact absurd rfl (hf ld ls)
  | ret rs => exact absurd rfl (hr rs)
  | chk | chkz | nop => dsimp only [exec] at h; exact check_sameOutside h
  | cmp | cmpi | cmpb | cmpbi | cmpbiAnybz => dsimp only [exec] at h; exact computeFlags_sameOutside h
  | bv | bnv | be | bne | bc | bnc | bse | bht | bn | bnn | ble | bgt | br => dsimp only [exec] at h; exact branch_sameOutside h
  | dbv | dbnv | dbe | dbne | dbc | dbnc | dbse | dbht | dbn | dbnn | dble | dbgt | dbr =>
    dsimp only [exec] at h; exact delayedBranch_sameOutside h
  | call => exact call_sameOutside h
  | traple | trapgt | traplt | trapge | trapse | trapht | trapst | traphe | trape | trapne | trapv | trap =>
    dsimp only [exec] at h; exact trapIf_sameOutside h
  | fadd | faddd | fsub | fsubd | fmul | fmuld | fdiv | fdivd | fcmp | fcmpd | fcmpu | fcmpud | fcvt | fcvtd | softDo =>
    dsimp only [exec] at h; exact software_sameOutside h
  | emul | emulu | emuls | emac | emacd | emsub | emsubd | ehmac | ehmacd | ehcmuld | ehcmacd | ehcsumd | ehcfftd | ehcfftsd =>
    dsimp only [exec] at h; exact dsp_sameOutside h
  | fetch k => exact fetch_sameOutside (k := k) h
  | _ => cases hm <;> cases hd

/-- Settles O57: an instruction with a result register by what its shape writes, the others by their own. -/
theorem registerInstructionsFrame : Obligations.RegisterInstructionsFrame := by
  intro i s t hm hf hr hh h
  cases hd : i.dest with
  | some rd => exact (exec_changes_result hd hh h).sameOutside
  | none => exact exec_sameOutside_of_no_result hd hm hf hr h

end Sys2Proof.Machine


/-! ## A step fetches the instruction that memory and cache hold (20_memory R114, R115, R118) -/

namespace Sys2Proof.Machine

/-! ### The cache beyond a word that it holds -/

theorem wordAddress_aligned (a : Word) : (wordAddress a).toNat % 4 = 0 := by
  rw [wordAddress_toNat]; omega

/-- The cache has the words from `w` on up to the one `m` words further, which is its last one. -/
structure Cache.SpansTo (c : Cache) (w : Word) (m : Nat) : Prop where
  wf : c.wf = true
  holds : c.holds w = true
  last : c.lookAhead = w + BitVec.ofNat 32 (4 * m)
  bound : m ≤ 31

theorem Cache.spansTo_of_holds {c : Cache} {w : Word} (hw : w.toNat % 4 = 0) (h : c.wf = true) (hh : c.holds w = true) :
    ∃ m, c.SpansTo w m := by
  obtain ⟨-, ha, hd, -⟩ := (Cache.wf_iff c).mp h
  obtain ⟨-, hl⟩ := (Cache.holds_iff c w).mp hh
  obtain ⟨m, -, hm, -, -⟩ := word_above ha hw
  exact ⟨m, h, hh, by bv_omega, by bv_omega⟩

namespace Cache.SpansTo

variable {c : Cache} {w : Word} {m : Nat}

theorem holds_at (h : c.SpansTo w m) {k : Nat} (hk : k ≤ m) : c.holds (w + BitVec.ofNat 32 (4 * k)) = true := by
  obtain ⟨-, -, hd, -⟩ := (Cache.wf_iff c).mp h.wf
  obtain ⟨he, hl⟩ := (Cache.holds_iff c w).mp h.holds
  have hb := h.bound
  have ha := h.last
  exact (Cache.holds_iff c _).mpr ⟨he, by bv_omega⟩

theorem next (h : c.SpansTo w m) : c.next = w + BitVec.ofNat 32 (4 * (m + 1)) := by
  have he := ((Cache.holds_iff c w).mp h.holds).1
  have ha := h.last
  rw [Cache.next, he, ha]
  simp only [Bool.false_eq_true, if_false]
  bv_omega

/-- While fewer than 32 words are spanned, a load overwrites none of them (20 R115). -/
theorem load (h : c.SpansTo w m) (hm : m < 31) (v : Word) :
    (c.load v).SpansTo w (m + 1) ∧ (c.lookBack = w → (c.load v).lookBack = w) := by
  obtain ⟨hb, hz, hd, -⟩ := (Cache.wf_iff c).mp h.wf
  obtain ⟨he, hl⟩ := (Cache.holds_iff c w).mp h.holds
  have ha := h.last
  have hn := h.next
  have hslot (hc : cacheSlot c.next = cacheSlot c.lookBack) : (c.lookAhead + 4 - c.lookBack).toNat = 128 := by
    have hnext : c.next = c.lookAhead + 4 := by simp [Cache.next, he]
    obtain ⟨k, -, hk, -, hs⟩ := word_above (show (c.lookAhead + 4).toNat % 4 = 0 by bv_omega) hb
    have hpos : 0 < k ∧ k ≤ 32 := by bv_omega
    rw [hnext, cacheSlot_eq_iff, hs] at hc
    omega
  have hback : (c.load v).lookBack = c.lookBack ∨
      ((c.load v).lookBack = c.lookBack + 4 ∧ (c.lookAhead + 4 - c.lookBack).toNat = 128) := by
    simp only [Cache.load, he, Bool.not_false, Bool.true_and, beq_iff_eq]
    split
    · exact .inr ⟨rfl, hslot (by assumption)⟩
    · exact .inl rfl
  refine ⟨⟨Cache.load_wf v h.wf, (Cache.holds_iff _ _).mpr ⟨rfl, ?_⟩, hn, by omega⟩, fun hw => ?_⟩
  · rw [Cache.load_lookAhead, hn]
    rcases hback with hk | ⟨hk, h128⟩ <;> rw [hk] <;> bv_omega
  · rcases hback with hk | ⟨-, h128⟩
    · rw [hk, hw]
    · bv_omega

end Cache.SpansTo

/-! ### Prefetching from it -/

/-- The words from `w` on up to the one `k` words further can be read. -/
def State.readableTo (s : State) (w : Word) (k : Nat) : Prop := ∀ j, j ≤ k → s.readRefusal (w + BitVec.ofNat 32 (4 * j)) = none

/-- A prefetch goes as far as asked, or to the first word that cannot be read, and overwrites nothing from `w` on. -/
theorem State.prefetch_spans {w : Word} {q : Nat} (hq : q ≤ 30) (n : Nat) (s : State) (m : Nat) (h : s.cache.SpansTo w m) (hn : q ≤ m + n) :
    ∃ m', (State.prefetch (w + BitVec.ofNat 32 (4 * q)) n s).cache.SpansTo w m' ∧ (∀ k, k ≤ q → s.readableTo w k → k ≤ m') ∧
      (s.cache.lookBack = w → (State.prefetch (w + BitVec.ofNat 32 (4 * q)) n s).cache.lookBack = w) := by
  induction n generalizing s m with
  | zero => exact ⟨m, h, fun k hk _ => by omega, id⟩
  | succ n ih =>
    have hb := h.bound
    have hfar : (w + BitVec.ofNat 32 (4 * q) - s.cache.next).msb = decide (q ≤ m) := by
      rw [h.next, BitVec.msb_eq_decide, decide_eq_decide]; bv_omega
    unfold State.prefetch
    rw [hfar]
    split
    · rename_i hstop
      refine ⟨m, h, fun k hk hr => ?_, id⟩
      refine Nat.not_lt.mp fun hkm => ?_
      have hm := hr (m + 1) (by omega)
      rw [← h.next] at hm
      simp only [hm, Option.isSome_none, Bool.or_false, decide_eq_true_eq] at hstop
      omega
    · rename_i hgo
      have hqm : m < q := by
        simp only [Bool.or_eq_true, decide_eq_true_eq, not_or] at hgo
        omega
      obtain ⟨hl, hback⟩ := h.load (by omega) (s.valueAt .word s.cache.next)
      obtain ⟨m', hs, hk, hb'⟩ := ih s.loadCacheWord (m + 1) hl (by omega)
      refine ⟨m', hs, fun k hkq hr => hk k hkq fun j hj => ?_, fun hw => hb' (hback hw)⟩
      rw [s.loadCacheWord_loaded.readRefusal]; exact hr j hj

theorem State.prefetch_flushAfterSlot (last : Word) (n : Nat) (s : State) :
    (State.prefetch last n s).cache.flushAfterSlot = s.cache.flushAfterSlot := by
  induction n generalizing s with
  | zero => rfl
  | succ n ih =>
    unfold State.prefetch
    split
    · rfl
    · exact ih s.loadCacheWord

/-- A readable word not far beyond one that the cache holds is reached without that one being lost. -/
theorem State.demand_beyond {s : State} {w : Word} {q : Nat} (hw : w.toNat % 4 = 0) (hwf : s.cache.wf = true) (hh : s.cache.holds w = true)
    (hq : q ≤ 30) (hr : s.readableTo w q) :
    ∃ t, s.demand (w + BitVec.ofNat 32 (4 * q)) = .next t ∧ t.cache.holds w = true := by
  have happroach : (s.approach (w + BitVec.ofNat 32 (4 * q))).cache.holds w = true ∧
      (s.approach (w + BitVec.ofNat 32 (4 * q))).cache.holds (w + BitVec.ofNat 32 (4 * q)) = true := by
    unfold State.approach
    by_cases hc : s.cache.holds (w + BitVec.ofNat 32 (4 * q)) = true
    · rw [hc]; exact ⟨hh, hc⟩
    · obtain ⟨m, hm⟩ := Cache.spansTo_of_holds hw hwf hh
      have hmq : ¬q ≤ m := fun hqm => hc (hm.holds_at hqm)
      have hnear : ¬128 < (w + BitVec.ofNat 32 (4 * q) - s.cache.next).toNat := by rw [hm.next]; bv_omega
      rw [if_neg (by rw [Bool.eq_false_iff.mpr hc, decide_eq_false hnear]; decide)]
      obtain ⟨m', hs, hk, -⟩ := State.prefetch_spans hq 33 s m hm (by omega)
      exact ⟨hs.holds, hs.holds_at (hk q (Nat.le_refl q) hr)⟩
  refine ⟨s.approach (w + BitVec.ofNat 32 (4 * q)), ?_, happroach.1⟩
  unfold State.demand
  dsimp only
  rw [if_pos happroach.2]

/-! ### The prefetch after an instruction has been fetched -/

theorem State.runAhead_flushAfterSlot (s : State) : s.runAhead.cache.flushAfterSlot = false := by
  unfold State.runAhead
  dsimp only
  rw [State.prefetch_flushAfterSlot]
  split
  · rfl
  · rename_i hf; exact Bool.eq_false_iff.mpr hf

/-- Eight words beyond the PC's become available, as far as they can be read (20 R115). -/
theorem State.runAhead_holds {s : State} (hwf : s.cache.wf = true) (hf : s.cache.flushAfterSlot = false)
    (hh : s.cache.holds (wordAddress s.pc) = true) {k : Nat} (hk : k ≤ 8) (hr : s.readableTo (wordAddress s.pc) k) :
    s.runAhead.cache.holds (wordAddress s.pc + BitVec.ofNat 32 (4 * k)) = true := by
  obtain ⟨m, hm⟩ := Cache.spansTo_of_holds (wordAddress_aligned s.pc) hwf hh
  obtain ⟨m', hs, hreach, -⟩ := State.prefetch_spans (q := 8) (by decide) 64 s m hm (by omega)
  have hrun : s.runAhead = State.prefetch (wordAddress s.pc + BitVec.ofNat 32 (4 * 8)) 64 s := by
    unfold State.runAhead; rw [hf]; rfl
  rw [hrun]
  exact hs.holds_at (hreach k hk hr)

/-- A load into an empty cache. -/
theorem Cache.load_empty_spansTo {c : Cache} (h : c.wf = true) (he : c.empty = true) (v : Word) :
    (c.load v).SpansTo c.lookBack 0 ∧ (c.load v).lookBack = c.lookBack := by
  obtain ⟨-, -, -, hsame⟩ := (Cache.wf_iff c).mp h
  have hnext : c.next = c.lookBack := by rw [Cache.next, if_pos he, hsame he]
  refine ⟨⟨Cache.load_wf v h, hnext ▸ Cache.holds_load_next v h, ?_, by decide⟩, by simp [Cache.load, he]⟩
  rw [Cache.load_lookAhead, hnext]; simp

/-- A flush that waited for the delay instruction leaves the look-back counter at the branch target (20 R118). -/
theorem State.runAhead_lookBack {s : State} (hf : s.cache.flushAfterSlot = true) : s.runAhead.cache.lookBack = wordAddress s.pc := by
  have hrun : s.runAhead =
      State.prefetch (wordAddress s.pc + BitVec.ofNat 32 (4 * 8)) (63 + 1) { s with cache := s.cache.flush s.pc } := by
    unfold State.runAhead; rw [hf]; rfl
  rw [hrun]
  unfold State.prefetch
  split
  · rfl
  · obtain ⟨hspan, hback⟩ := Cache.load_empty_spansTo (Cache.flush_wf s.cache s.pc) rfl
      (({ s with cache := s.cache.flush s.pc } : State).valueAt .word (s.cache.flush s.pc).next)
    obtain ⟨-, -, -, hkeep⟩ := State.prefetch_spans (q := 8) (by decide) 63
      ({ s with cache := s.cache.flush s.pc } : State).loadCacheWord 0 hspan (by decide)
    exact hkeep hback

/-! ### Code that memory and cache hold -/

/-- A half-word of code at an address: what `holdsCode` says of each. -/
def State.holdsHalf (s : State) (p : Word) (h : Half) : Prop :=
  s.readRefusal (wordAddress p) = none ∧
  s.byteAt p = some (h.extractLsb' 8 8) ∧ s.byteAt (p + 1) = some (h.extractLsb' 0 8) ∧
  (s.cache.holds (wordAddress p) = true → s.cache.half p = h)

theorem State.holdsCode_iff (s : State) (a : Word) (hs : List Half) :
    s.holdsCode a hs ↔ ∀ k h, hs[k]? = some h → s.holdsHalf (a + BitVec.ofNat 32 (2 * k)) h := Iff.rfl

theorem half_bytes (h : Half) : h.extractLsb' 8 8 ++ h.extractLsb' 0 8 = h := BitVec.extractLsb'_append_extractLsb' (w := 8) (len := 8)

/-- The four bytes of a word as two half-words (R92). -/
theorem word_halves (a b c d : Byte) : (a ++ b ++ c ++ d : Word) = (a ++ b) ++ (c ++ d) := BitVec.append_assoc

theorem State.readByte_connected {s : State} {a : Word} {b : Byte} (k : Nat) (h : s.byteAt a = some b) : s.readByte a k = b := by
  unfold State.readByte; rw [h]

/-- The half-word at an even address, in the word that memory gives for it (20 R92). -/
theorem State.valueAt_half {s : State} {p : Word} {b0 b1 : Byte} (hp : p.toNat % 2 = 0) (h0 : s.byteAt p = some b0)
    (h1 : s.byteAt (p + 1) = some b1) :
    (s.valueAt .word (wordAddress p)).extractLsb' (if p.getLsbD 1 then 0 else 16) 16 = b0 ++ b1 := by
  have hw := wordAddress_toNat p
  have halign : Size.word.align (wordAddress p) = wordAddress p := wordAddress_wordAddress p
  have hbit : p.getLsbD 1 = decide (p.toNat % 4 = 2) := by
    rw [BitVec.getLsbD, Nat.testBit_eq_decide_div_mod_eq, decide_eq_decide]; omega
  unfold State.valueAt Size.join
  dsimp only
  rw [halign, hbit, word_halves]
  split
  · rename_i hc
    simp only [decide_eq_true_eq] at hc
    have e0 : wordAddress p + BitVec.ofNat 32 2 = p := by bv_omega
    have e1 : wordAddress p + BitVec.ofNat 32 3 = p + 1 := by bv_omega
    rw [e0, e1, State.readByte_connected 2 h0, State.readByte_connected 3 h1]
    exact BitVec.extractLsb'_append_eq_right
  · rename_i hc
    simp only [decide_eq_true_eq] at hc
    have e0 : wordAddress p + BitVec.ofNat 32 0 = p := by bv_omega
    have e1 : wordAddress p + BitVec.ofNat 32 1 = p + 1 := by bv_omega
    rw [e0, e1, State.readByte_connected 0 h0, State.readByte_connected 1 h1]
    exact BitVec.extractLsb'_append_eq_left

/-- `t` is `s` with the cache loaded further, where a flush waits as before, and with all code still there. -/
structure State.FetchKeeps (s t : State) : Prop extends s.LoadedTo t where
  flush : t.cache.flushAfterSlot = s.cache.flushAfterSlot
  code : s.cache.wf = true → ∀ p h, p.toNat % 2 = 0 → s.holdsHalf p h → t.holdsHalf p h

theorem State.FetchKeeps.refl (s : State) : s.FetchKeeps s := ⟨.refl s, rfl, fun _ _ _ _ => id⟩

theorem State.FetchKeeps.trans {s t u : State} (h : s.FetchKeeps t) (h' : t.FetchKeeps u) : s.FetchKeeps u where
  toLoadedTo := h.toLoadedTo.trans h'.toLoadedTo
  flush := h'.flush.trans h.flush
  code := fun hw p x hp hx => h'.code (h.wf hw) p x hp (h.code hw p x hp hx)

/-- Loading further keeps a half-word of code if the cache, where it has the word now, delivers it. -/
theorem State.LoadedTo.holdsHalf {s t : State} (h : s.LoadedTo t) {p : Word} {x : Half} (hx : s.holdsHalf p x)
    (hc : t.cache.holds (wordAddress p) = true → t.cache.half p = x) : t.holdsHalf p x := by
  obtain ⟨hr, h0, h1, -⟩ := hx
  exact ⟨(h.readRefusal _).trans hr, (h.byteAt _).trans h0, (h.byteAt _).trans h1, hc⟩

theorem Cache.half_eq (c : Cache) (p : Word) :
    c.half p = c.words[cacheSlot (wordAddress p)].extractLsb' (if p.getLsbD 1 then 0 else 16) 16 := by
  simp only [cacheSlot_wordAddress]; rfl

/-- A load brings the words of the code as memory holds them. -/
theorem State.loadCacheWord_keeps (s : State) : s.FetchKeeps s.loadCacheWord where
  toLoadedTo := s.loadCacheWord_loaded
  flush := rfl
  code := fun hw p x hp hx => s.loadCacheWord_loaded.holdsHalf hx fun hh => by
    obtain ⟨-, h0, h1, hcached⟩ := hx
    rcases Cache.holds_load hw (wordAddress_aligned p) hh with ⟨hnext, hword⟩ | ⟨hheld, hword⟩
    · rw [Cache.half_eq, State.loadCacheWord, hword, ← hnext, State.valueAt_half hp h0 h1, half_bytes]
    · rw [Cache.half_eq, State.loadCacheWord, hword, ← Cache.half_eq, hcached hheld]

theorem State.prefetch_keeps (last : Word) (n : Nat) (s : State) : s.FetchKeeps (State.prefetch last n s) := by
  induction n generalizing s with
  | zero => exact .refl s
  | succ n ih =>
    unfold State.prefetch
    split
    · exact .refl s
    · exact s.loadCacheWord_keeps.trans (ih _)

theorem State.approach_keeps (s : State) (w : Word) : s.FetchKeeps (s.approach w) := by
  unfold State.approach
  split
  · exact .refl s
  · exact State.prefetch_keeps _ _ s

theorem State.restart_keeps (s : State) (w : Word) : s.FetchKeeps { s with cache := s.cache.restart w } where
  frame := rfl
  wf := fun _ => Cache.restart_wf s.cache w
  parity := fun _ => rfl
  flush := rfl
  code := fun _ p x _ ⟨hr, h0, h1, _⟩ => ⟨hr, h0, h1, fun hh => by cases hh⟩

theorem State.demand_keeps {s t : State} {w : Word} (h : s.demand w = .next t) : s.FetchKeeps t := by
  have ha := s.approach_keeps w
  unfold State.demand at h
  dsimp only at h
  generalize s.approach w = u at h ha
  split at h
  · cases h; exact ha
  · split at h
    · cases h
    · cases h; exact ha.trans ((u.restart_keeps w).trans (State.loadCacheWord_keeps _))

/-- A half-word of code whose word the cache has is delivered as it is. -/
theorem State.delivered_code {s : State} {p : Word} {x : Half} (hx : s.holdsHalf p x) (hh : s.cache.holds (wordAddress p) = true) :
    s.delivered p = (x, s) := by
  obtain ⟨-, h0, h1, hcached⟩ := hx
  unfold State.delivered
  rw [h0, h1]
  dsimp only
  rw [half_bytes, hcached hh, if_pos rfl]

theorem half_align_even {p : Word} (hp : p.toNat % 2 = 0) : Size.half.align p = p := by
  apply BitVec.eq_of_getLsbD_eq
  intro i hi
  have hmask : (0xFFFFFFFE#32).getLsbD i = decide (i ≠ 0) := by
    have : ∀ j : Fin 32, (0xFFFFFFFE#32).getLsbD j.val = decide (j.val ≠ 0) := by decide
    exact this ⟨i, hi⟩
  have hlow : p.getLsbD 0 = false := by rw [BitVec.getLsbD, Nat.testBit_zero]; simp [hp]
  show (p &&& 0xFFFFFFFE#32).getLsbD i = p.getLsbD i
  rw [BitVec.getLsbD_and, hmask]
  rcases Nat.eq_zero_or_pos i with rfl | hi
  · rw [hlow, Bool.false_and]
  · rw [decide_eq_true (Nat.ne_of_gt hi), Bool.and_true]

/-- What a fetch of a half-word of code delivers, given the state in which its word is available. -/
theorem State.fetchHalf_code {s t : State} {p : Word} {x : Half} (hwf : s.cache.wf = true) (hp : p.toNat % 2 = 0) (hx : s.holdsHalf p x)
    (ht : s.demand (wordAddress p) = .next t) : s.fetchHalf p = .next (x, t) ∧ s.FetchKeeps t := by
  have hk := State.demand_keeps ht
  obtain ⟨t', ht', hh⟩ := State.demand_holds hx.1
  cases ht.symm.trans ht'
  refine ⟨?_, hk⟩
  unfold State.fetchHalf
  rw [ht, andThen_next, half_align_even hp, State.delivered_code (hk.code hwf p x hp hx) hh]

/-! ### The half-words of an instruction (30_encoding R150) -/

theorem needsSecond_of_needsThird {h1 h2 : Half} (h : needsThird h1 h2 = true) : needsSecond h1 = true := by
  unfold needsThird at h
  unfold needsSecond
  dsimp only at h ⊢
  generalize h1.toNat / 256 = op at *
  split at h
  · rename_i hop
    have hn : (countField h1).toNat = 17 := congrArg BitVec.toNat (of_decide_eq_true h)
    rw [if_neg (by omega), if_pos hop, hn]
    rfl
  · split at h
    · rename_i hop
      rcases hop with hop | hop | rfl | rfl
      · rw [if_pos hop]
      · rw [if_neg (by omega), if_neg (by omega), if_pos hop]
      · rfl
      · rfl
    · cases h

/-- Whether there are a second and a third half-word is said by the length. -/
theorem needs_iff_lengthOf (h1 h2 : Half) :
    needsSecond h1 = decide (1 < lengthOf h1 h2) ∧ needsThird h1 h2 = decide (2 < lengthOf h1 h2) := by
  unfold lengthOf
  cases h3 : needsThird h1 h2 with
  | true => simp [needsSecond_of_needsThird h3]
  | false => cases needsSecond h1 <;> simp

theorem lengthOf_pos (h1 h2 : Half) : 0 < lengthOf h1 h2 := by
  unfold lengthOf
  cases needsThird h1 h2 <;> cases needsSecond h1 <;> decide

theorem State.FetchKeeps.holdsCode {s t : State} (h : s.FetchKeeps t) (hwf : s.cache.wf = true) {a : Word} (ha : a.toNat % 2 = 0)
    {hs : List Half} (hc : s.holdsCode a hs) : t.holdsCode a hs :=
  (t.holdsCode_iff a hs).mpr fun k x hk =>
    h.code hwf _ x (by rw [BitVec.toNat_add, BitVec.toNat_ofNat]; omega) ((s.holdsCode_iff a hs).mp hc k x hk)

theorem State.holdsCode_first {s : State} {a : Word} {hs : List Half} (hc : s.holdsCode a hs) (h0 : 0 < hs.length) :
    s.holdsHalf a (hs.getD 0 0) := by
  have h : s.holdsHalf (a + 0#32) hs[0] := (s.holdsCode_iff a hs).mp hc 0 hs[0] (List.getElem?_eq_getElem h0)
  rw [List.getD_eq_getElem?_getD, List.getElem?_eq_getElem h0, Option.getD_some]
  rwa [BitVec.add_zero] at h

/-- A further half-word of the instruction is fetched, where it has one, without the first one's word being lost. -/
theorem State.fetchIf_code {s : State} {a : Word} {hs : List Half} {k : Nat} {b : Bool} (hwf : s.cache.wf = true) (ha : a.toNat % 2 = 0)
    (hc : s.holdsCode a hs) (h0 : 0 < hs.length) (hk : k ≤ 2) (hb : b = decide (k < hs.length)) (hh : s.cache.holds (wordAddress a) = true) :
    ∃ t, s.fetchIf b (a + BitVec.ofNat 32 (2 * k)) = .next (hs.getD k 0, t) ∧ s.FetchKeeps t ∧ t.cache.holds (wordAddress a) = true := by
  subst hb
  unfold State.fetchIf
  by_cases hl : k < hs.length
  · have hthis := (s.holdsCode_iff a hs).mp hc k hs[k] (List.getElem?_eq_getElem hl)
    obtain ⟨q, hq, hword⟩ : ∃ q, q ≤ 1 ∧ wordAddress (a + BitVec.ofNat 32 (2 * k)) = wordAddress a + BitVec.ofNat 32 (4 * q) := by
      refine ⟨(a.toNat % 4 + 2 * k) / 4, by omega, BitVec.eq_of_toNat_eq ?_⟩
      rw [wordAddress_toNat, BitVec.toNat_add, BitVec.toNat_add, wordAddress_toNat, BitVec.toNat_ofNat, BitVec.toNat_ofNat]
      omega
    have hr : s.readableTo (wordAddress a) q := fun j hj => by
      rcases Nat.eq_zero_or_pos j with rfl | hpos
      · simpa using (State.holdsCode_first hc h0).1
      · rw [show j = q by omega, ← hword]; exact hthis.1
    obtain ⟨t, ht, hkeep⟩ := State.demand_beyond (wordAddress_aligned a) hwf hh (by omega) hr
    rw [← hword] at ht
    obtain ⟨hf, hkeeps⟩ := State.fetchHalf_code hwf (by rw [BitVec.toNat_add, BitVec.toNat_ofNat]; omega) hthis ht
    refine ⟨t, ?_, hkeeps, hkeep⟩
    rw [if_pos (by simpa using hl), hf, List.getD_eq_getElem?_getD, List.getElem?_eq_getElem hl, Option.getD_some]
  · refine ⟨s, ?_, .refl s, hh⟩
    rw [if_neg (by simpa using hl), List.getD_eq_getElem?_getD, List.getElem?_eq_none (by omega), Option.getD_none]

/-- The half-words that are fetched at an address where memory and cache hold an instruction's are those. -/
theorem State.fetchHalves_code {s : State} {a : Word} {hs : List Half} (hwf : s.cache.wf = true) (ha : a.toNat % 2 = 0)
    (hc : s.holdsCode a hs) (hl : hs.length = lengthOf (hs.getD 0 0) (hs.getD 1 0)) :
    ∃ t, s.fetchHalves a = .next ((hs.getD 0 0, hs.getD 1 0, hs.getD 2 0), t) ∧ s.FetchKeeps t ∧ t.cache.holds (wordAddress a) = true := by
  obtain ⟨hsecond, hthird⟩ := needs_iff_lengthOf (hs.getD 0 0) (hs.getD 1 0)
  rw [← hl] at hsecond hthird
  have h0 : 0 < hs.length := hl ▸ lengthOf_pos _ _
  have hfirst := State.holdsCode_first hc h0
  obtain ⟨s1, hd, hh1⟩ := State.demand_holds hfirst.1
  obtain ⟨e1, k1⟩ := State.fetchHalf_code hwf ha hfirst hd
  have c1 := k1.holdsCode hwf ha hc
  obtain ⟨s2, e2, k2, hh2⟩ := State.fetchIf_code (k := 1) (k1.wf hwf) ha c1 h0 (by decide) hsecond hh1
  obtain ⟨s3, e3, k3, hh3⟩ :=
    State.fetchIf_code (k := 2) (k2.wf (k1.wf hwf)) ha (k2.holdsCode (k1.wf hwf) ha c1) h0 (by decide) hthird hh2
  refine ⟨s3, ?_, k1.trans (k2.trans k3), hh3⟩
  unfold State.fetchHalves
  rw [e1, andThen_next]
  dsimp only
  rw [show a + 2 = a + BitVec.ofNat 32 (2 * 1) from rfl, e2, andThen_next]
  dsimp only
  rw [show a + 4 = a + BitVec.ofNat 32 (2 * 2) from rfl, e3]
  rfl

/-- The instruction is fetched, and the prefetch is done after it. -/
theorem State.fetch_code {s : State} {i : Instr} {hs : List Half} (hwf : s.cache.wf = true) (ha : s.fetchAddress.toNat % 2 = 0)
    (hi : decodeHalves hs = .ok i) (hl : hs.length = lengthOf (hs.getD 0 0) (hs.getD 1 0)) (hc : s.holdsCode s.fetchAddress hs) :
    ∃ t, s.fetch = .next (i, t.runAhead) ∧ s.FetchKeeps t ∧ t.cache.holds (wordAddress s.fetchAddress) = true := by
  obtain ⟨t, ht, hk, hh⟩ := State.fetchHalves_code hwf ha hc hl
  refine ⟨t, ?_, hk, hh⟩
  unfold decodeHalves at hi
  unfold State.fetch decodeOut
  rw [ht, andThen_next]
  dsimp only
  rw [hi]
  rfl

theorem State.fetchAddress_pc {s : State} (h : ∀ slot, s.delay ≠ .taken slot) : s.fetchAddress = s.pc := by
  unfold State.fetchAddress
  split
  · exact absurd (by assumption) (h _)
  · rfl

/-- The step of a running processor that is not being reset. -/
theorem step_running {s : State} (hp : s.power = .running) (hr : s.input.resetPin = false) :
    step s = s.sense.runInstruction s.input.cycles := by
  have hp' : s.sense.power = .running := hp
  unfold step
  dsimp only
  rw [hr, hp']
  rfl

/-- Settles O7: the fetch delivers the code, loading the cache without losing the word at the PC, and the prefetch goes on from there. -/
theorem stepRunsDecoded : Obligations.StepRunsDecoded := by
  intro s i hs hp hr hwf ha hi hl hc
  have heven : s.sense.fetchAddress.toNat % 2 = 0 := by
    rw [BitVec.getLsbD, Nat.testBit_zero, decide_eq_false_iff_not] at ha
    omega
  obtain ⟨u, hf, hk, hh⟩ := State.fetch_code (s := s.sense) hwf heven hi hl hc
  have hload : s.sense.LoadedTo u.runAhead := hk.toLoadedTo.trans u.runAhead_loaded
  have hpc : u.pc = s.pc := hk.pc
  refine ⟨u.runAhead.cache, u.runAhead.draws, u.runAhead.parityPending, ?_, hload.wf hwf, hload.parity, fun hd hflush k hk8 hread => ?_,
    u.runAhead_flushAfterSlot, fun hflush => ?_⟩
  · rw [step_running hp hr, ← hload.frame, State.runInstruction, hf]
    rfl
  · rw [State.fetchAddress_pc (s := s.sense) hd] at hh
    rw [← hpc]
    refine State.runAhead_holds (hk.wf hwf) (hk.flush.trans hflush) (hpc ▸ hh) hk8 fun j hj => ?_
    rw [hk.readRefusal, hpc]
    exact hread j hj
  · rw [← hpc]
    exact State.runAhead_lookBack (hk.flush.trans hflush)

end Sys2Proof.Machine


/-! ## Memory accesses: bytes read, bytes stored and bytes kept (20_memory R92, R93, R97, R104, R112)

A frame of memory is `ChangesBytes`: the board and the MCR as before, and every byte but those at given addresses. It is carried along each
operation that a load or store goes through. -/

namespace Sys2Proof.Machine

/-! ### Reads (20 R92, R93) -/

theorem Size.join_byte (b : Nat → Byte) : Size.byte.join b = 0#24 ++ b 0 := BitVec.setWidth_eq_append (by decide)

theorem Size.join_half (b : Nat → Byte) : Size.half.join b = 0#16 ++ b 0 ++ b 1 :=
  (BitVec.setWidth_eq_append (by decide)).trans (BitVec.append_assoc (x₁ := 0#16)).symm

theorem Size.join_word (b : Nat → Byte) : Size.word.join b = b 0 ++ b 1 ++ b 2 ++ b 3 := rfl

theorem Size.join_congr {z : Size} {b c : Nat → Byte} (h : ∀ k, k < z.bytes → b k = c k) : z.join b = z.join c := by
  cases z with
  | byte => simp only [Size.join, h 0 (by decide)]
  | half => simp only [Size.join, h 0 (by decide), h 1 (by decide)]
  | word => simp only [Size.join, h 0 (by decide), h 1 (by decide), h 2 (by decide), h 3 (by decide)]

/-- Where something is connected at every byte of the access, the value read is those bytes. -/
theorem State.valueAt_connected {s : State} {z : Size} {a : Word} {b : Nat → Byte}
    (h : ∀ k, k < z.bytes → s.byteAt (z.align a + BitVec.ofNat 32 k) = some (b k)) : s.valueAt z a = z.join b :=
  Size.join_congr fun k hk => State.readByte_connected k (h k hk)

/-- Settles O49, by the bytes that the three sizes join. -/
theorem readsAreBigEndian : Obligations.ReadsAreBigEndian := by
  intro s a b
  refine ⟨fun h => ?_, fun h => ?_, fun h => ?_⟩
  · rw [← Size.join_byte]
    refine State.valueAt_connected fun k hk => ?_
    obtain rfl : k = 0 := Nat.lt_one_iff.mp hk
    rwa [show Size.byte.align a + BitVec.ofNat 32 0 = a from BitVec.add_zero a]
  · rw [← Size.join_half]; exact State.valueAt_connected (z := .half) h
  · rw [← Size.join_word]; exact State.valueAt_connected (z := .word) h

/-! ### The stack address mode (20 R112) -/

/-- The local register that a stack address names, by its absolute number. -/
theorem stackIndex_val (a : Word) : (stackIndex a).val = a.toNat / 4 % 64 := by
  show (a.extractLsb' 2 6).toNat = _
  rw [BitVec.extractLsb'_toNat, Nat.shiftRight_eq_div_pow]

/-- Settles O51: the comparison with SP is the unsigned one. -/
theorem stackAddressMode : Obligations.StackAddressMode := by
  intro s a v
  refine ⟨fun h => ?_, fun h => ?_⟩
  · have hlt : a < s.sp := h
    exact ⟨if_pos hlt, if_pos hlt⟩
  · have hge : ¬a < s.sp := Nat.not_lt.mpr h
    rw [State.stackRead, State.stackWrite, if_neg hge, if_neg hge]
    simp only [State.readAbsolute, State.writeAbsolute, Fin.getElem_fin, stackIndex_val, and_self]

/-! ### Stores, byte by byte (20 R92, R97, R104) -/

section

variable {s : State} {z : Size} {a v : Word}

@[simp] theorem State.writeByte_cellOf (s : State) (a : Word) (b : Byte) (c : Word) : (s.writeByte a b).cellOf c = s.cellOf c := by
  rw [State.writeByte_frame]; rfl

@[simp] theorem State.writeByte_writable (s : State) (a : Word) (b : Byte) (c : Word) : (s.writeByte a b).writable c = s.writable c := by
  rw [State.writeByte_frame]; rfl

/-- The bytes of a value whose places in it the list names, stored one after the other. -/
def State.writeListed (s : State) (z : Size) (a v : Word) (l : List Nat) : State :=
  l.foldl (fun t k => t.writeByte (a + BitVec.ofNat 32 k) (z.byteOf v k)) s

theorem State.store_eq_writeListed (s : State) (z : Size) (a v : Word) : s.store z a v = s.writeListed z (z.align a) v (List.range z.bytes) := rfl

theorem State.writeListed_cons (s : State) (z : Size) (a v : Word) (k : Nat) (l : List Nat) :
    s.writeListed z a v (k :: l) = (s.writeByte (a + BitVec.ofNat 32 k) (z.byteOf v k)).writeListed z a v l := rfl

/-- A byte at another cell than those stored to. -/
theorem State.byteAt_writeListed_ne {b : Word} {l : List Nat} (h : ∀ k ∈ l, s.cellOf b ≠ s.cellOf (a + BitVec.ofNat 32 k)) :
    (s.writeListed z a v l).byteAt b = s.byteAt b := by
  induction l generalizing s with
  | nil => rfl
  | cons k l ih =>
    obtain ⟨hk, hl⟩ := List.forall_mem_cons.mp h
    rw [State.writeListed_cons, ih (by simpa using hl), State.byteAt_writeByte_ne hk]

/-- A byte stored to, where the bytes stored share no cell: the value's, or, where the address cannot be written, the one before. -/
theorem State.byteAt_writeListed_mem {k : Nat} {l : List Nat} (hwf : s.memWf = true) (hl : l.Nodup) (hk : k ∈ l)
    (hinj : ∀ j ∈ l, s.cellOf (a + BitVec.ofNat 32 k) = s.cellOf (a + BitVec.ofNat 32 j) → k = j) :
    (s.writeListed z a v l).byteAt (a + BitVec.ofNat 32 k) =
      if s.writable (a + BitVec.ofNat 32 k) then some (z.byteOf v k) else s.byteAt (a + BitVec.ofNat 32 k) := by
  induction l generalizing s with
  | nil => cases hk
  | cons j l ih =>
    obtain ⟨hj, hl⟩ := List.nodup_cons.mp hl
    obtain ⟨hhead, htail⟩ := List.forall_mem_cons.mp hinj
    rw [State.writeListed_cons]
    by_cases hkj : k = j
    · subst hkj
      have hrest : ∀ i ∈ l, s.cellOf (a + BitVec.ofNat 32 k) ≠ s.cellOf (a + BitVec.ofNat 32 i) := fun i hi hc => hj (htail i hi hc ▸ hi)
      rw [State.byteAt_writeListed_ne (by simpa using hrest)]
      cases hw : s.writable (a + BitVec.ofNat 32 k) with
      | true => exact State.byteAt_writeByte_same hwf hw
      | false => exact State.byteAt_writeByte_rom hw
    · have hmem : k ∈ l := (List.mem_cons.mp hk).resolve_left hkj
      rw [ih (State.writeByte_wf _ _ hwf) hl hmem (by simpa using htail), State.writeByte_writable,
        State.byteAt_writeByte_ne fun hc => hkj (hhead hc)]

theorem State.byteAt_store_uncovered {b : Word} (h : ¬s.covers z a b) : (s.store z a v).byteAt b = s.byteAt b :=
  State.byteAt_writeListed_ne fun k hk hc => h ⟨k, List.mem_range.mp hk, hc⟩

/-- Settles O50: a store writes its bytes one after the other, each to its own cell. -/
theorem storeWritesItsBytes : Obligations.StoreWritesItsBytes := by
  intro s z a v at_ hwf hinj
  have hbyte (k : Nat) (hk : k < z.bytes) :
      (s.store z a v).byteAt (at_ k) = if s.writable (at_ k) then some (z.byteOf v k) else s.byteAt (at_ k) :=
    State.byteAt_writeListed_mem hwf List.nodup_range (List.mem_range.mpr hk) fun j hj => hinj k j hk (List.mem_range.mp hj)
  refine ⟨fun k hk hw => ?_, fun k hk hw => ?_, fun b hb => State.byteAt_store_uncovered hb⟩
  · rw [hbyte k hk, if_pos hw]; rfl
  · rw [hbyte k hk, if_neg (by simp [hw])]

end

/-! ### Nothing in memory but the bytes at given addresses -/

/-- `t` has the board and the MCR of `s`, and every byte of memory but those at the addresses of `w`. -/
structure State.ChangesBytes (w : Word → Prop) (s t : State) : Prop where
  platform : t.platform = s.platform
  mcr : t.bus.mcr = s.bus.mcr
  bytes : ∀ b, ¬w b → t.byteAt b = s.byteAt b

/-- The addresses whose byte a store of the data type at `a` may change: those the access covers and, for a double-word, those of the second word. -/
def State.storeCovers (s : State) (ty : DataType) (a b : Word) : Prop :=
  s.covers ty.size a b ∨ (ty.isDouble = true ∧ s.covers .word (a + 4) b)

theorem State.covers_congr {s t : State} (hp : t.platform = s.platform) (hm : t.bus.mcr = s.bus.mcr) (z : Size) (a b : Word) :
    t.covers z a b ↔ s.covers z a b := by
  unfold State.covers; simp only [State.cellOf_congr hp hm]

theorem DataType.size_of_isDouble {ty : DataType} (h : ty.isDouble = true) : ty.size = .word := by
  cases ty with
  | double => rfl
  | _ => cases h

theorem State.SameOutside.changesBytes {s t : State} (w : Word → Prop) (h : s.SameOutside t) : s.ChangesBytes w t :=
  ⟨h.platform, by rw [h.bus], fun b _ => h.bytes b⟩

namespace State.ChangesBytes

variable {w : Word → Prop} {s t u : State}

theorem trans (h : s.ChangesBytes w t) (h' : t.ChangesBytes w u) : s.ChangesBytes w u :=
  ⟨h'.platform.trans h.platform, h'.mcr.trans h.mcr, fun b hb => (h'.bytes b hb).trans (h.bytes b hb)⟩

theorem writeSlot (h : s.ChangesBytes w t) (v : Word) (x : Slot) : s.ChangesBytes w (t.writeSlot v x) :=
  h.trans ((t.writeSlot_changesOnly (w := [x]) v (List.mem_singleton.mpr rfl)).outside.changesBytes w)

theorem memRead {z : Size} {a v : Word} (h : s.ChangesBytes w t) (hr : t.memRead z a = .next (v, u)) : s.ChangesBytes w u := by
  obtain ⟨-, -, rfl⟩ := memRead_inv hr
  exact h.trans ⟨rfl, rfl, fun _ _ => rfl⟩

theorem stackRead {a v : Word} (h : s.ChangesBytes w t) (hr : t.stackRead a = .next (v, u)) : s.ChangesBytes w u := by
  rcases stackRead_inv hr with ⟨-, hr⟩ | ⟨-, -, rfl⟩
  · exact h.memRead hr
  · exact h

theorem ioRead {a v : Word} (h : s.ChangesBytes w t) (hr : t.ioRead a = .next (v, u)) : s.ChangesBytes w u := by
  rcases ioRead_inv hr with ⟨-, rfl⟩ | ⟨-, rfl⟩ <;> exact h.trans ⟨rfl, rfl, fun _ _ => rfl⟩

theorem memWrite {z : Size} {a v : Word} (h : s.ChangesBytes w t) (hw : ∀ b, s.covers z a b → w b) (hr : t.memWrite z a v = .next u) :
    s.ChangesBytes w u := by
  obtain ⟨-, rfl⟩ := memWrite_inv hr
  refine h.trans ⟨by rw [written_frame], written_mcr .., fun b hb => ?_⟩
  unfold State.written
  split
  · rw [State.sdramConfig_frame]; rfl
  · exact State.byteAt_store_uncovered fun hc => hb (hw b ((State.covers_congr h.platform h.mcr z a b).mp hc))

theorem loadWord {ty : DataType} {base a v : Word} (h : s.ChangesBytes w t) (hr : t.loadWord ty base a = .next (v, u)) : s.ChangesBytes w u := by
  unfold State.loadWord at hr
  split at hr
  · cases hr
  · obtain ⟨⟨v', u'⟩, hr, hu⟩ := andThen_inv hr
    cases hu; exact h.memRead hr

theorem storeWord {ty : DataType} {base a v : Word} (h : s.ChangesBytes w t) (hw : ∀ b, s.covers ty.size a b → w b)
    (hr : t.storeWord ty base a v = .next u) : s.ChangesBytes w u := by
  unfold State.storeWord at hr
  split at hr
  · cases hr
  · exact h.memWrite hw hr

/-- A load changes no byte. -/
theorem loadMemory {ty : DataType} {base a : Word} {rs : Reg} (h : s.ChangesBytes w t) (hr : t.loadMemory ty base a rs = .next u) :
    s.ChangesBytes w u := by
  obtain ⟨⟨v, t1⟩, h1, hr⟩ := andThen_inv hr
  dsimp only at hr
  split at hr
  · obtain ⟨rsf, -, hr⟩ := withFollower_inv hr
    obtain ⟨⟨vf, t2⟩, h2, hr⟩ := andThen_inv hr
    cases hr; exact (((h.loadWord h1).loadWord h2).writeSlot _ _).writeSlot _ _
  · cases hr; exact (h.loadWord h1).writeSlot _ _

theorem loadIo {double : Bool} {a : Word} {rs : Reg} (h : s.ChangesBytes w t) (hr : t.loadIo double a rs = .next u) : s.ChangesBytes w u := by
  obtain ⟨⟨v, t1⟩, h1, hr⟩ := andThen_inv hr
  dsimp only at hr
  split at hr
  · obtain ⟨rsf, -, hr⟩ := withFollower_inv hr
    obtain ⟨⟨vf, t2⟩, h2, hr⟩ := andThen_inv hr
    cases hr; exact (((h.ioRead h1).ioRead h2).writeSlot _ _).writeSlot _ _
  · cases hr; exact (h.ioRead h1).writeSlot _ _

/-- A store changes no byte but those of its one or two accesses. -/
theorem storeMemory {ty : DataType} {base a v vf : Word} (h : s.ChangesBytes (s.storeCovers ty a) t)
    (hr : t.storeMemory ty base a v vf = .next u) : s.ChangesBytes (s.storeCovers ty a) u := by
  obtain ⟨t1, h1, hr⟩ := andThen_inv hr
  have hfirst := h.storeWord (fun b => .inl) h1
  split at hr
  · rename_i hd
    exact hfirst.storeWord (fun b hb => .inr ⟨hd, DataType.size_of_isDouble hd ▸ hb⟩) hr
  · cases hr; exact hfirst

end State.ChangesBytes

/-! ### The address modes -/

section

variable {w : Word → Prop} {len : Nat} {g b double : Bool} {ty : DataType} {rd rs : Reg} {dis : Word} {bump : Option Word} {s t : State}

/-- The bytes an instruction changes are those that its body does. -/
theorem instruction_changesBytes {body : State → State → Out (State × Bool)} (h : instruction len g b s body = .next t)
    (hb : ∀ v u e, s.ChangesBytes w v → body (s.begin len) v = .next (u, e) → s.ChangesBytes w u) : s.ChangesBytes w t := by
  obtain ⟨-, u, e, hu, he⟩ := instruction_inv h
  have hstart := (s.underway_changesOnly len 0 s.flags []).outside.changesBytes w
  exact (hb _ u e hstart hu).trans ((ends_sameOutside (he.imp And.right And.right)).changesBytes w)

theorem refusedIf_inv {α : Type} {c : Bool} {r : Refusal} {x : Out α} {y : α} (h : (if c then .refused r else x) = .next y) :
    c = false ∧ x = .next y := by
  cases c with
  | true => cases h
  | false => exact ⟨rfl, h⟩

theorem nextOnly_inv {x : Out State} (h : nextOnly rd x = .next t) : rd.isPc = false ∧ rd.isSr = false ∧ x = .next t := by
  obtain ⟨hn, h⟩ := refusedIf_inv h
  obtain ⟨hp, hs⟩ := Bool.or_eq_false_iff.mp hn
  exact ⟨hp, hs, h⟩

theorem withStoredLow_inv {α : Type} {r : State} {f : Word → Out α} {x : α} (h : withStoredLow double rs r f = .next x) :
    ∃ vf, f vf = .next x := by
  unfold withStoredLow at h
  split at h
  · exact ⟨0, h⟩
  · obtain ⟨rsf, -, h⟩ := withFollower_inv h; exact ⟨_, h⟩

/-- The address register advanced or not. -/
theorem State.ChangesBytes.bumped (h : s.ChangesBytes w t) (f : Word → Word) (x : Slot) :
    s.ChangesBytes w (match bump with | some d => t.writeSlot (f d) x | none => t) := by
  cases bump with
  | none => exact h
  | some d => exact h.writeSlot _ _

theorem loadThrough_changesBytes (h : loadThrough len g ty rd rs dis bump s = .next t) : s.ChangesBytes w t :=
  instruction_changesBytes h fun v u e hv hu => by
    obtain ⟨-, hu⟩ := refusedIf_inv hu
    dsimp only at hu
    split at hu
    · cases hu; exact hv.bumped _ _
    · obtain ⟨x, hx, hu⟩ := andThen_inv hu
      cases hu; exact (hv.bumped _ _).loadMemory hx

theorem loadDis_changesBytes (h : loadDis len ty rd rs dis s = .next t) : s.ChangesBytes w t := loadThrough_changesBytes h

theorem loadReg_changesBytes {ld : BitVec 4} (h : loadReg ty ld rs s = .next t) : s.ChangesBytes w t := loadThrough_changesBytes h

theorem loadPost_changesBytes {ld : BitVec 4} (h : loadPost ty ld rs s = .next t) : s.ChangesBytes w t := loadThrough_changesBytes h

theorem loadNext_changesBytes (h : loadNext len ty rd rs dis s = .next t) : s.ChangesBytes w t :=
  loadThrough_changesBytes (nextOnly_inv h).2.2

theorem loadAbs_changesBytes (h : loadAbs len ty rs dis s = .next t) : s.ChangesBytes w t :=
  instruction_changesBytes h fun v u e hv hu => by
    obtain ⟨-, hu⟩ := refusedIf_inv hu
    obtain ⟨x, hx, hu⟩ := andThen_inv hu
    cases hu; exact hv.loadMemory hx

theorem loadIoDis_changesBytes (h : loadIoDis len double rd rs dis s = .next t) : s.ChangesBytes w t :=
  instruction_changesBytes h fun v u e hv hu => by
    obtain ⟨-, hu⟩ := refusedIf_inv hu
    split at hu
    · cases hu; exact hv
    · obtain ⟨x, hx, hu⟩ := andThen_inv hu
      cases hu; exact hv.loadIo hx

theorem loadIoAbs_changesBytes (h : loadIoAbs len double rs dis s = .next t) : s.ChangesBytes w t :=
  instruction_changesBytes h fun v u e hv hu => by
    obtain ⟨-, hu⟩ := refusedIf_inv hu
    obtain ⟨x, hx, hu⟩ := andThen_inv hu
    cases hu; exact hv.loadIo hx

theorem ldwS_changesBytes {dis : DisW} (h : execLdwS rd rs dis s = .next t) : s.ChangesBytes w t :=
  instruction_changesBytes (nextOnly_inv h).2.2 fun v u e hv hu => by
    obtain ⟨-, hu⟩ := refusedIf_inv hu
    split at hu
    · cases hu; exact hv.writeSlot _ _
    · obtain ⟨⟨x, t1⟩, hx, hu⟩ := andThen_inv hu
      cases hu; exact ((hv.stackRead hx).writeSlot _ _).writeSlot _ _

theorem storeThrough_changesBytes (h : storeThrough len g ty rd rs dis bump s = .next t) :
    s.ChangesBytes (s.storeCovers ty (s.operand len rd + dis)) t :=
  instruction_changesBytes h fun v u e hv hu => by
    obtain ⟨vf, hu⟩ := withStoredLow_inv hu
    split at hu
    · cases hu; exact hv.bumped _ _
    · obtain ⟨x, hx, hu⟩ := andThen_inv hu
      rw [State.begin_readReg] at hx
      cases hu; exact (hv.bumped _ _).storeMemory hx

theorem storeDis_changesBytes (h : storeDis len ty rd rs dis s = .next t) : s.ChangesBytes (s.storeCovers ty (s.operand len rd + dis)) t :=
  storeThrough_changesBytes h

theorem storeReg_changesBytes {ld : BitVec 4} (h : storeReg ty ld rs s = .next t) :
    s.ChangesBytes (s.storeCovers ty (s.operand 1 (.l ld) + 0)) t := storeThrough_changesBytes h

theorem storePost_changesBytes {ld : BitVec 4} (h : storePost ty ld rs s = .next t) :
    s.ChangesBytes (s.storeCovers ty (s.operand 1 (.l ld) + 0)) t := storeThrough_changesBytes h

theorem storeNext_changesBytes (h : storeNext len ty rd rs dis s = .next t) : s.ChangesBytes (s.storeCovers ty (s.operand len rd + 0)) t :=
  storeThrough_changesBytes (nextOnly_inv h).2.2

theorem storeAbs_changesBytes (h : storeAbs len ty rs dis s = .next t) : s.ChangesBytes (s.storeCovers ty dis) t :=
  instruction_changesBytes h fun v u e hv hu => by
    obtain ⟨vf, hu⟩ := withStoredLow_inv hu
    obtain ⟨x, hx, hu⟩ := andThen_inv hu
    cases hu; exact hv.storeMemory hx

end

/-! ### The instructions -/

/-- A load changes no byte, from memory, the I/O space or in stack mode. -/
theorem exec_load_changesBytes {w : Word → Prop} {i : Instr} {s t : State}
    (hi : i.loadForm.isSome = true ∨ i.ioLoadForm.isSome = true ∨ ∃ rd rs dis, i = .ldwS rd rs dis) (h : exec i s = .next t) :
    s.ChangesBytes w t := by
  cases i with
  | ldbsD | ldbuD | ldhuD | ldhsD | ldwD | lddD => dsimp only [exec] at h; exact loadDis_changesBytes h
  | ldwR | lddR => dsimp only [exec] at h; exact loadReg_changesBytes h
  | ldwP | lddP => dsimp only [exec] at h; exact loadPost_changesBytes h
  | ldbsN | ldbuN | ldhuN | ldhsN | ldwN | lddN => dsimp only [exec] at h; exact loadNext_changesBytes h
  | ldbsA | ldbuA | ldhuA | ldhsA | ldwA | lddA => dsimp only [exec] at h; exact loadAbs_changesBytes h
  | ldwIod | lddIod => dsimp only [exec] at h; exact loadIoDis_changesBytes h
  | ldwIoa | lddIoa => dsimp only [exec] at h; exact loadIoAbs_changesBytes h
  | ldwS => exact ldwS_changesBytes h
  | _ => obtain hi | hi | ⟨rd, rs, dis, hi⟩ := hi <;> cases hi

/-- A store to memory changes no byte but those of the address that its mode gives. -/
theorem exec_store_changesBytes {i : Instr} {x : Access} {s t : State} (hi : i.storeForm = some x) (h : exec i s = .next t) :
    s.ChangesBytes (s.storeCovers x.type (x.addressOf s)) t := by
  cases i with
  | stbsD | stbuD | sthuD | sthsD | stwD | stdD => cases hi; dsimp only [exec] at h; exact storeDis_changesBytes h
  | stwR | stdR => cases hi; dsimp only [exec] at h; exact storeReg_changesBytes h
  | stwP | stdP => cases hi; dsimp only [exec] at h; exact storePost_changesBytes h
  | stbsN | stbuN | sthuN | sthsN | stwN | stdN => cases hi; dsimp only [exec] at h; exact storeNext_changesBytes h
  | stbsA | stbuA | sthuA | sthsA | stwA | stdA => cases hi; dsimp only [exec] at h; exact storeAbs_changesBytes h
  | _ => cases hi

/-- Settles O59, from what the address modes leave of memory. -/
theorem memoryInstructionsFrame : Obligations.MemoryInstructionsFrame := by
  refine ⟨fun i x s t hi _ h b hb hb' => ?_, fun i s t hi h b => ?_⟩
  · refine (exec_store_changesBytes hi h).bytes b fun hc => ?_
    rcases hc with hc | ⟨hd, hc⟩
    · exact hb hc
    · exact hb' hd hc
  · exact (exec_load_changesBytes (w := fun _ => False) hi h).bytes b id

end Sys2Proof.Machine

/-! ## Loads and stores of the I/O address space (20_memory R108 to R110, 40_memory_instructions R190 to R193)

Each instruction is one body over an `Access`, whatever its address mode; the access itself answers as `ioLoaded` and `ioStored` say. -/

namespace Sys2Proof.Machine

/-! ### One access (20 R108 to R110) -/

/-- An access that has an answer, or is refused because the address is internal and undefined (93 U22). -/
def orInternal {α : Type} : Option α → Out α
  | some x => .next x
  | none => .refused .ioInternal

@[simp] theorem orInternal_some {α : Type} (x : α) : orInternal (some x) = .next x := rfl

@[simp] theorem orInternal_none {α : Type} : orInternal (none : Option α) = .refused .ioInternal := rfl

/-- Bits 25, 24 and 23 are all one. -/
theorem powerBits_eq (a : Word) : (a.getLsbD 25 && a.getLsbD 24 && a.getLsbD 23) = decide (a.extractLsb' 23 3 = 7) := by
  have hfield : ∀ x : BitVec 3, (x.getLsbD 2 && x.getLsbD 1 && x.getLsbD 0) = decide (x = 7) := by decide
  rw [← hfield]
  simp only [BitVec.getLsbD_extractLsb', Nat.reduceLT, Nat.reduceAdd, decide_true, Bool.true_and]

theorem ioTarget_eq (a : Word) :
    ioTarget a = if a.getLsbD 27 = false then .device
      else if a.extractLsb' 23 3 = 7 then (if a.getLsbD 22 then .sleep else .powerDown) else .undefined := by
  unfold ioTarget
  rw [powerBits_eq]
  simp only [Bool.not_eq_true', decide_eq_true_eq]

theorem ioRead_eq (s : State) (a : Word) : s.ioRead a = orInternal (s.ioLoaded (a &&& 0xFFFFFFFC)) := by
  unfold State.ioRead State.ioLoaded
  dsimp only [Size.align]
  rw [ioTarget_eq, onPins_eq]
  generalize a &&& 0xFFFFFFFC = b
  by_cases hdevice : b.getLsbD 27 = false
  · rw [if_pos hdevice, if_pos hdevice]; rfl
  · rw [if_neg hdevice, if_neg hdevice]
    by_cases hpower : b.extractLsb' 23 3 = 7
    · rw [if_pos hpower, if_pos hpower]
      cases b.getLsbD 22 <;> rfl
    · rw [if_neg hpower, if_neg hpower]; rfl

theorem ioWrite_eq (s : State) (a v : Word) : s.ioWrite a v = orInternal (s.ioStored (a &&& 0xFFFFFFFC) v) := by
  unfold State.ioWrite State.ioStored
  dsimp only [Size.align]
  rw [ioTarget_eq, onPins_eq]
  generalize a &&& 0xFFFFFFFC = b
  by_cases hdevice : b.getLsbD 27 = false
  · rw [if_pos hdevice, if_pos hdevice]; rfl
  · rw [if_neg hdevice, if_neg hdevice]
    by_cases hpower : b.extractLsb' 23 3 = 7
    · rw [if_pos hpower, if_pos hpower]
      cases b.getLsbD 22 <;> rfl
    · rw [if_neg hpower, if_neg hpower]; rfl

/-! ### One word or two -/

section

variable {u t t' : State} {a v low : Word} {rs : Reg} {rsf : Slot} {double : Bool}

theorem loadIo_refused (h : u.ioLoaded (a &&& 0xFFFFFFFC) = none) : u.loadIo double a rs = .refused .ioInternal := by
  unfold State.loadIo; rw [ioRead_eq, h]; rfl

theorem loadIo_single (h : u.ioLoaded (a &&& 0xFFFFFFFC) = some (v, t)) : u.loadIo false a rs = .next (t.writeSlot v (regSlot rs)) := by
  unfold State.loadIo; rw [ioRead_eq, h]; rfl

theorem loadIo_double_refused (h : u.ioLoaded (a &&& 0xFFFFFFFC) = some (v, t)) (hf : followSlot rs = some rsf)
    (h' : t.ioLoaded ((a + 4) &&& 0xFFFFFFFC) = none) : u.loadIo true a rs = .refused .ioInternal := by
  unfold State.loadIo withFollower
  rw [ioRead_eq, h, hf, orInternal_some, andThen_next]
  dsimp only
  rw [if_pos rfl, ioRead_eq, h']; rfl

theorem loadIo_double (h : u.ioLoaded (a &&& 0xFFFFFFFC) = some (v, t)) (hf : followSlot rs = some rsf)
    (h' : t.ioLoaded ((a + 4) &&& 0xFFFFFFFC) = some (low, t')) :
    u.loadIo true a rs = .next ((t'.writeSlot v (regSlot rs)).writeSlot low rsf) := by
  unfold State.loadIo withFollower
  rw [ioRead_eq, h, hf, orInternal_some, andThen_next]
  dsimp only
  rw [if_pos rfl, ioRead_eq, h']; rfl

theorem storeIo_refused (h : u.ioStored (a &&& 0xFFFFFFFC) v = none) : u.storeIo double a v low = .refused .ioInternal := by
  unfold State.storeIo; rw [ioWrite_eq, h]; rfl

theorem storeIo_single (h : u.ioStored (a &&& 0xFFFFFFFC) v = some t) : u.storeIo false a v low = .next t := by
  unfold State.storeIo; rw [ioWrite_eq, h]; rfl

theorem storeIo_double (h : u.ioStored (a &&& 0xFFFFFFFC) v = some t) :
    u.storeIo true a v low = orInternal (t.ioStored ((a + 4) &&& 0xFFFFFFFC) low) := by
  unfold State.storeIo; rw [ioWrite_eq, h, orInternal_some, andThen_next, if_pos rfl, ioWrite_eq]

end

/-! ### Data registers (40 R176, R177) -/

/-- The registers that a load may name are those that no load is refused for (93 U30). -/
theorem Access.loadForbidden_eq (x : Access) : loadForbidden x.type x.data = !x.loadable := by
  obtain ⟨type, base, dis, bump, data, len⟩ := x
  cases data with
  | l c => rfl
  | g c =>
    show (c == 0 || c == 1 || c == 14 || c == 15 || (type.isDouble && c == 13)) =
      !(decide (2 ≤ c.toNat) && decide (c.toNat ≤ 13) && !(type.isDouble && c == 13#4))
    generalize type.isDouble = double
    revert double c; decide

/-- A global register that may be loaded is none of PC, SR, G14 and G15. -/
theorem Access.global_of_loadable {x : Access} {c : BitVec 4} (h : x.loadable = true) (hc : x.data = .g c) :
    2 ≤ c.toNat ∧ c.toNat ≤ 13 := by
  unfold Access.loadable at h
  rw [hc] at h
  simp only [Bool.and_eq_true, decide_eq_true_eq] at h
  exact h.1

theorem Access.notPcSr_of_loadable {x : Access} (h : x.loadable = true) : x.data.notPcSr = true := by
  cases hd : x.data with
  | l c => rfl
  | g c =>
    have hc := (Access.global_of_loadable h hd).1
    clear hd
    revert c; decide

/-- A register that may be loaded has one following it. -/
theorem Access.follower_of_loadable {x : Access} (h : x.loadable = true) : ∃ rsf, followSlot x.data = some rsf := by
  cases hd : x.data with
  | l c => exact ⟨_, rfl⟩
  | g c =>
    obtain ⟨hlow, hhigh⟩ := Access.global_of_loadable h hd
    refine ⟨.glob (c + 1), ?_⟩
    have h0 : c ≠ 0#4 := by rintro rfl; exact absurd hlow (by decide)
    have h15 : c ≠ 15#4 := by rintro rfl; exact absurd hhigh (by decide)
    rw [followSlot, if_neg h0, if_neg h15]

theorem writeSlot_general {r : Reg} (h : r.notPcSr = true) (s : State) (v : Word) : s.writeSlot v (regSlot r) = s.put r v := by
  rw [regSlot_general h]; cases r <;> rfl

section

variable {rs : Reg} {r : State} {f : Word → Out (State × Bool)}

theorem withStoredLow_single : withStoredLow false rs r f = f 0 := rfl

theorem withStoredLow_refused (hs : rs.isSr = false) (hf : followSlot rs = none) :
    withStoredLow true rs r f = .refused .reservedRegister := by
  simp [withStoredLow, hs, withFollower, hf]

/-- The second word of a double-word store: zero for the SR code, otherwise the following register's. -/
theorem withStoredLow_double {low : Word}
    (h : if rs.isSr then low = 0 else ∃ rsf, followSlot rs = some rsf ∧ low = r.readSlot rsf) : withStoredLow true rs r f = f low := by
  split at h
  · rename_i hs
    simp [withStoredLow, hs, h]
  · rename_i hs
    obtain ⟨rsf, hf, rfl⟩ := h
    simp [withStoredLow, hs, withFollower, hf]

end

/-! ### The instructions (40 R190 to R193) -/

/-- What an I/O load does in the state `u` that it writes to, after having begun at `s`. -/
def Access.ioLoad (x : Access) (s u : State) : Out (State × Bool) :=
  if loadForbidden x.type x.data then .refused .loadDestination
  else if x.nullPointer s then .next (u, true)
  else andThen (u.loadIo x.type.isDouble (x.addressOf s) x.data) done

/-- What an I/O store does, in the same way. -/
def Access.ioStore (x : Access) (s u : State) : Out (State × Bool) :=
  withStoredLow x.type.isDouble x.data (s.begin x.len) fun low =>
    if x.nullPointer s then .next (u, true)
    else andThen (u.storeIo x.type.isDouble (x.addressOf s) (s.stored x.len x.data) low) done

section

variable {len : Nat} {double : Bool} {rd rs : Reg} {dis : Word} {s : State}

theorem loadIoDis_eq (h : s.runs len (rd.isGlobal || rs.isGlobal)) :
    loadIoDis len double rd rs dis s = finish s.delay
      (Access.ioLoad ⟨if double then .double else .word, some rd, dis, none, rs, len⟩ s (s.underway len 0 s.flags)) := by
  unfold loadIoDis
  rw [instruction_eq (frameRefusal_runs h), State.begin_readReg]
  cases double <;> rfl

theorem loadIoAbs_eq (h : s.runs len true) :
    loadIoAbs len double rs dis s = finish s.delay
      (Access.ioLoad ⟨if double then .double else .word, none, dis, none, rs, len⟩ s (s.underway len 0 s.flags)) := by
  unfold loadIoAbs
  rw [instruction_eq (frameRefusal_runs h)]
  cases double <;> rfl

theorem storeIoDis_eq (h : s.runs len (rd.isGlobal || rs.isGlobal)) :
    storeIoDis len double rd rs dis s = finish s.delay
      (Access.ioStore ⟨if double then .double else .word, some rd, dis, none, rs, len⟩ s (s.underway len 0 s.flags)) := by
  unfold storeIoDis
  rw [instruction_eq (frameRefusal_runs h), State.begin_readReg, State.begin_readStored]
  cases double <;> rfl

theorem storeIoAbs_eq (h : s.runs len true) :
    storeIoAbs len double rs dis s = finish s.delay
      (Access.ioStore ⟨if double then .double else .word, none, dis, none, rs, len⟩ s (s.underway len 0 s.flags)) := by
  unfold storeIoAbs
  rw [instruction_eq (frameRefusal_runs h), State.begin_readStored]
  cases double <;> rfl

end

/-- The I/O loads share their body. -/
theorem exec_ioLoad {i : Instr} {x : Access} {s : State} (hi : i.ioLoadForm = some x) (hr : s.runs x.len x.global) :
    exec i s = finish s.delay (x.ioLoad s (s.underway x.len 0 s.flags)) := by
  cases i with
  | ldwIod => cases hi; exact loadIoDis_eq (double := false) hr
  | ldwIoa => cases hi; exact loadIoAbs_eq (double := false) hr
  | lddIod => cases hi; exact loadIoDis_eq (double := true) hr
  | lddIoa => cases hi; exact loadIoAbs_eq (double := true) hr
  | _ => cases hi

/-- So do the I/O stores. -/
theorem exec_ioStore {i : Instr} {x : Access} {s : State} (hi : i.ioStoreForm = some x) (hr : s.runs x.len x.global) :
    exec i s = finish s.delay (x.ioStore s (s.underway x.len 0 s.flags)) := by
  cases i with
  | stwIod => cases hi; exact storeIoDis_eq (double := false) hr
  | stwIoa => cases hi; exact storeIoAbs_eq (double := false) hr
  | stdIod => cases hi; exact storeIoDis_eq (double := true) hr
  | stdIoa => cases hi; exact storeIoAbs_eq (double := true) hr
  | _ => cases hi

/-- Settles O55, by the body that the four loads share. -/
theorem loadsFromIo : Obligations.LoadsFromIo := by
  intro i x s hi hr u a b
  rw [exec_ioLoad hi hr]
  unfold Access.ioLoad
  rw [Access.loadForbidden_eq]
  refine ⟨fun hl => by simp [hl], fun hl hn => by simp [hl, hn, u], fun hl hn => ?_⟩
  obtain ⟨rsf, hf⟩ := Access.follower_of_loadable hl
  have hput := writeSlot_general (Access.notPcSr_of_loadable hl)
  simp only [hl, hn, Bool.not_true, Bool.false_eq_true, if_false]
  refine ⟨fun ha => by rw [loadIo_refused ha]; rfl, fun v t ha => ⟨fun hd => ?_, fun hd => ⟨fun hb => ?_, fun low t' hb rsf' hf' => ?_⟩⟩⟩
  · rw [hd, loadIo_single ha, hput]; rfl
  · rw [hd, loadIo_double_refused ha hf hb]; rfl
  · rw [hd, loadIo_double ha hf' hb, hput, writeSlot_eq]; rfl

/-- Settles O56, by the body that the four stores share. -/
theorem storesToIo : Obligations.StoresToIo := by
  intro i x s hi hr u a b v
  rw [exec_ioStore hi hr]
  unfold Access.ioStore
  refine ⟨fun hd hn => ?_, fun hd hn => ?_, fun hd hs hf => ?_, fun hd low hlow => ?_⟩
  · rw [hd, withStoredLow_single, hn]; rfl
  · rw [hd, withStoredLow_single, hn]
    simp only [Bool.false_eq_true, if_false]
    exact ⟨fun ha => by rw [storeIo_refused ha]; rfl, fun t ha => by rw [storeIo_single ha]; rfl⟩
  · rw [hd, withStoredLow_refused hs hf]; rfl
  · rw [hd, withStoredLow_double (low := low) (by simpa only [State.begin_readSlot] using hlow)]
    refine ⟨fun hn => by rw [hn]; rfl, fun hn => ?_⟩
    rw [hn]
    simp only [Bool.false_eq_true, if_false]
    refine ⟨fun ha => by rw [storeIo_refused ha]; rfl, fun t ha => ?_⟩
    rw [storeIo_double ha]
    exact ⟨fun hb => by rw [hb]; rfl, fun t' hb => by rw [hb]; rfl⟩

end Sys2Proof.Machine

/-! ## Loads and stores of memory, and the stack address mode (40_memory_instructions R170 to R189, R194 to R217)

As with the I/O space, each instruction is one body over an `Access`, whatever its address mode; `Access.run` adds what comes before the body. -/

namespace Sys2Proof.Machine

/-! ### The advanced address register (40 R175, R179) -/

theorem State.put_frame (s : State) (r : Reg) (v : Word) : s.put r v = { s with g := (s.put r v).g, locals := (s.put r v).locals } := by
  cases r <;> rfl

/-- Advancing the address register changes registers alone. -/
theorem Access.advance_frame (x : Access) (s t : State) :
    x.advance s t = { t with g := (x.advance s t).g, locals := (x.advance s t).locals } := by
  unfold Access.advance
  split
  · exact State.put_frame ..
  · rfl

section

variable {x : Access} {s t : State} {z : Size} {a b : Word}

@[simp] theorem Access.advance_sr : (x.advance s t).sr = t.sr := by rw [Access.advance_frame]

@[simp] theorem Access.advance_sp : (x.advance s t).sp = t.sp := by rw [Access.advance_frame]

@[simp] theorem Access.advance_areaRefusal (area : Area) : (x.advance s t).areaRefusal area = t.areaRefusal area := by
  rw [Access.advance_frame]; rfl

theorem Access.advance_readable : (x.advance s t).readable b a ↔ t.readable b a := by rw [Access.advance_frame]; rfl

theorem Access.advance_storable : (x.advance s t).storable b a ↔ t.storable b a := by rw [Access.advance_frame]; rfl

theorem Access.advance_valueAt : (x.advance s t).valueAt z a = t.valueAt z a := by rw [Access.advance_frame]; rfl

theorem Access.advance_valueAt_afterRead : ((x.advance s t).afterRead z a).valueAt z b = (t.afterRead z a).valueAt z b := by
  rw [Access.advance_frame]; rfl

/-- A read and an advanced register do not disturb each other. -/
theorem Access.advance_afterRead : x.advance s (t.afterRead z a) = (x.advance s t).afterRead z a := by
  unfold Access.advance
  split
  · cases ‹Reg› <;> rfl
  · rfl

end

/-- A general register reads as the value written. -/
theorem State.readSlot_put_same (s : State) {r : Reg} (v : Word) (h : r.notPcSr = true) : (s.put r v).readSlot (regSlot r) = v := by
  rw [regSlot_general h]
  cases r with
  | l c => exact readLocal_writeLocal_same ..
  | g c => exact readGlobal_writeGlobal_same ..

/-- The other slots read as before. -/
theorem State.readSlot_put_ne (s : State) {r : Reg} {x : Slot} (v : Word) (h : r.notPcSr = true) (hx : x.named = true) (hne : regSlot r ≠ x) :
    (s.put r v).readSlot x = s.readSlot x := by
  rw [← writeSlot_general h]
  exact readSlot_writeSlot_ne s v (regSlot_named r) hx hne

/-! ### What comes before the body -/

/-- A mode that advances its address register is refused with the PC or SR there (40 R218, 93 U32). -/
def Access.guarded (x : Access) (o : Out State) : Out State :=
  match x.base, x.bump with
  | some r, some _ => nextOnly r o
  | _, _ => o

/-- An instruction that does `body`, which is given the state it finds and the one it writes to. -/
def Access.run (x : Access) (body : Access → State → State → Out (State × Bool)) (s : State) : Out State :=
  x.guarded (instruction x.len x.global false s fun _ w => body x s w)

theorem nextOnly_general {rd : Reg} {o : Out State} (h : rd.notPcSr = true) : nextOnly rd o = o := by
  obtain ⟨hp, hs⟩ := (Bool.and_eq_true _ _).mp h
  unfold nextOnly
  rw [if_neg (by simpa using And.intro hp hs)]

theorem nextOnly_congr {rd : Reg} {o o' : Out State} (h : rd.notPcSr = true → o = o') : nextOnly rd o = nextOnly rd o' := by
  cases hr : rd.notPcSr with
  | true => rw [h hr]
  | false =>
    have hc : (rd.isPc || rd.isSr) = true := by simpa [Reg.notPcSr, Decidable.or_iff_not_imp_left] using hr
    unfold nextOnly
    rw [if_pos hc, if_pos hc]

/-- An address register that the mode advances is a general one. -/
theorem Access.base_general {x : Access} {r : Reg} {d : Word} (h : x.encodable = true) (hb : x.base = some r) (hd : x.bump = some d) :
    r.notPcSr = true := by
  unfold Access.encodable at h
  simp only [hb, hd, Option.isNone_some, Bool.false_or] at h
  rw [Reg.notPcSr, Bool.and_comm]; exact h

theorem Access.guarded_encodable {x : Access} {o : Out State} (h : x.encodable = true) : x.guarded o = o := by
  unfold Access.guarded
  split
  · rename_i hb hd; exact nextOnly_general (Access.base_general h hb hd)
  · rfl

theorem Access.guarded_inv {x : Access} {o : Out State} {t : State} (h : x.guarded o = .next t) : o = .next t := by
  unfold Access.guarded at h
  split at h
  · exact (nextOnly_inv h).2.2
  · exact h

section

variable {len : Nat} {g b : Bool} {s t : State} {x : Access} {body : Access → State → State → Out (State × Bool)}

/-- Only what a body does in the states it is given matters. -/
theorem instruction_congr {f f' : State → State → Out (State × Bool)}
    (h : ∀ w, f (s.begin len) w = f' (s.begin len) w) : instruction len g b s f = instruction len g b s f' := by
  unfold instruction
  split
  · rfl
  · dsimp only; rw [h]

theorem Access.run_eq (hx : x.encodable = true) (hr : s.runs x.len x.global) :
    x.run body s = finish s.delay (body x s (s.underway x.len 0 s.flags)) := by
  rw [Access.run, Access.guarded_encodable hx, instruction_eq (frameRefusal_runs hr)]

end

/-! ### The bodies -/

/-- What a load from memory does. -/
def Access.load (x : Access) (s u : State) : Out (State × Bool) :=
  if loadForbidden x.type x.data then .refused .loadDestination
  else if x.nullPointer s then .next (x.advance s u, true)
  else andThen ((x.advance s u).loadMemory x.type (x.baseOf s) (x.addressOf s) x.data) done

/-- What a store to memory does. -/
def Access.store (x : Access) (s u : State) : Out (State × Bool) :=
  withStoredLow x.type.isDouble x.data (x.advance s (s.begin x.len)) fun low =>
    if x.nullPointer s then .next (x.advance s u, true)
    else andThen ((x.advance s u).storeMemory x.type (x.baseOf s) (x.addressOf s) (s.stored x.len x.data) low) fun t =>
      .next (t, x.type.storeRange (s.stored x.len x.data))

/-- What LDW.S does. -/
def Access.stackLoad (x : Access) (s u : State) : Out (State × Bool) :=
  if loadForbidden x.type x.data then .refused .loadDestination
  else if x.nullPointer s then .next (x.advance s u, true)
  else andThen (u.stackRead (x.baseOf s)) fun (v, t) => done ((x.advance s t).writeSlot v (regSlot x.data))

/-- What STW.S does. -/
def Access.stackStore (x : Access) (s u : State) : Out (State × Bool) :=
  if x.nullPointer s then .next (x.advance s u, true)
  else andThen ((x.advance s u).stackWrite (x.baseOf s) (s.stored x.len x.data)) done

/-! ### The address modes -/

section

variable {len : Nat} {g : Bool} {ty : DataType} {rd rs : Reg} {ld : BitVec 4} {dis : Word} {bump : Option Word} {s : State}

theorem loadThrough_eq (h : bump.isSome = true → rd.notPcSr = true) :
    loadThrough len g ty rd rs dis bump s =
      instruction len g false s fun _ w => Access.load ⟨ty, some rd, dis, bump, rs, len⟩ s w :=
  instruction_congr fun w => by
    rw [State.begin_readReg]
    cases bump with
    | none => rfl
    | some d => simp only [writeSlot_general (h rfl)]; rfl

theorem storeThrough_eq (h : bump.isSome = true → rd.notPcSr = true) :
    storeThrough len g ty rd rs dis bump s =
      instruction len g false s fun _ w => Access.store ⟨ty, some rd, dis, bump, rs, len⟩ s w :=
  instruction_congr fun w => by
    rw [State.begin_readReg, State.begin_readStored]
    cases bump with
    | none => rfl
    | some d => simp only [writeSlot_general (h rfl)]; rfl

theorem loadDis_eq : loadDis len ty rd rs dis s = Access.run ⟨ty, some rd, dis, none, rs, len⟩ Access.load s :=
  loadThrough_eq nofun

theorem loadNext_eq : loadNext len ty rd rs dis s = Access.run ⟨ty, some rd, 0, some dis, rs, len⟩ Access.load s :=
  nextOnly_congr fun h => loadThrough_eq fun _ => h

theorem loadReg_eq : loadReg ty ld rs s = Access.run ⟨ty, some (.l ld), 0, none, rs, 1⟩ Access.load s :=
  loadThrough_eq nofun

theorem loadPost_eq :
    loadPost ty ld rs s = Access.run ⟨ty, some (.l ld), 0, some (if ty.isDouble then 8 else 4), rs, 1⟩ Access.load s :=
  loadThrough_eq fun _ => rfl

theorem loadAbs_eq : loadAbs len ty rs dis s = Access.run ⟨ty, none, dis, none, rs, len⟩ Access.load s := rfl

theorem storeDis_eq : storeDis len ty rd rs dis s = Access.run ⟨ty, some rd, dis, none, rs, len⟩ Access.store s :=
  storeThrough_eq nofun

theorem storeNext_eq : storeNext len ty rd rs dis s = Access.run ⟨ty, some rd, 0, some dis, rs, len⟩ Access.store s :=
  nextOnly_congr fun h => storeThrough_eq fun _ => h

theorem storeReg_eq : storeReg ty ld rs s = Access.run ⟨ty, some (.l ld), 0, none, rs, 1⟩ Access.store s :=
  storeThrough_eq nofun

theorem storePost_eq :
    storePost ty ld rs s = Access.run ⟨ty, some (.l ld), 0, some (if ty.isDouble then 8 else 4), rs, 1⟩ Access.store s :=
  storeThrough_eq fun _ => rfl

theorem storeAbs_eq : storeAbs len ty rs dis s = Access.run ⟨ty, none, dis, none, rs, len⟩ Access.store s := by
  refine (instruction_congr (f := fun _ w => Access.store ⟨ty, none, dis, none, rs, len⟩ s w) fun w => ?_).symm
  rw [State.begin_readStored]; rfl

end

/-- The access of LDW.S and STW.S: a word at the content of Rd, which advances. -/
def stackAccess (rd rs : Reg) (dis : DisW) : Access := ⟨.word, some rd, 0, some (disWValue dis), rs, disWLength dis⟩

/-- A zero address register advances to the displacement itself. -/
theorem writeSlot_null {x : Access} {r : Reg} {d : Word} {s : State} (hb : x.base = some r) (hd : x.bump = some d) (hr : r.notPcSr = true)
    (hn : x.nullPointer s = true) (w : State) : w.writeSlot d (regSlot r) = x.advance s w := by
  have h0 : s.operand x.len r = 0 := by simpa [Access.nullPointer, Access.baseOf, hb] using hn
  simp only [Access.advance, hb, hd, h0, BitVec.ofNat_eq_ofNat, BitVec.zero_add, writeSlot_general hr]

theorem exec_ldwS_eq (rd rs : Reg) (dis : DisW) (s : State) : exec (.ldwS rd rs dis) s = (stackAccess rd rs dis).run Access.stackLoad s :=
  nextOnly_congr fun hr => instruction_congr fun w => by
    rw [State.begin_readReg]
    refine ite_congr rfl (fun _ => rfl) fun _ => ite_congr rfl (fun hn => ?_) fun _ => ?_
    · rw [writeSlot_null (x := stackAccess rd rs dis) rfl rfl hr hn]
    · simp only [writeSlot_general hr]; rfl

theorem exec_stwS_eq (rd rs : Reg) (dis : DisW) (s : State) : exec (.stwS rd rs dis) s = (stackAccess rd rs dis).run Access.stackStore s :=
  nextOnly_congr fun hr => instruction_congr fun w => by
    dsimp only
    rw [State.begin_readReg, State.begin_readStored, writeSlot_general hr]
    rfl

/-! ### The instructions -/

theorem exec_load {i : Instr} {x : Access} (hi : i.loadForm = some x) (s : State) : exec i s = x.run Access.load s := by
  cases i with
  | ldbsD | ldbuD | ldhuD | ldhsD | ldwD | lddD => cases hi; exact loadDis_eq
  | ldwR | lddR => cases hi; exact loadReg_eq
  | ldwP | lddP => cases hi; exact loadPost_eq
  | ldbsN | ldbuN | ldhuN | ldhsN | ldwN | lddN => cases hi; exact loadNext_eq
  | ldbsA | ldbuA | ldhuA | ldhsA | ldwA | lddA => cases hi; exact loadAbs_eq
  | _ => cases hi

theorem exec_store {i : Instr} {x : Access} (hi : i.storeForm = some x) (s : State) : exec i s = x.run Access.store s := by
  cases i with
  | stbsD | stbuD | sthuD | sthsD | stwD | stdD => cases hi; exact storeDis_eq
  | stwR | stdR => cases hi; exact storeReg_eq
  | stwP | stdP => cases hi; exact storePost_eq
  | stbsN | stbuN | sthuN | sthsN | stwN | stdN => cases hi; exact storeNext_eq
  | stbsA | stbuA | sthuA | sthsA | stwA | stdA => cases hi; exact storeAbs_eq
  | _ => cases hi

/-! ### Loads (40 R180 to R189, R194 to R199) -/

section

variable {u : State} {ty : DataType} {base a : Word} {rs : Reg} {rsf : Slot}

theorem DataType.expand_of_isDouble (h : ty.isDouble = true) (v : Word) : ty.expand v = v := by
  cases ty with
  | double => rfl
  | _ => cases h

theorem loadWord_eq (h : u.readable base a) :
    u.loadWord ty base a = .next (ty.expand (u.valueAt ty.size a), u.afterRead ty.size a) := by
  obtain ⟨hi, hr⟩ := h
  unfold State.loadWord State.memRead
  rw [hi, hr]; rfl

theorem loadMemory_single (hd : ty.isDouble = false) (h : u.readable base a) :
    u.loadMemory ty base a rs = .next ((u.afterRead ty.size a).writeSlot (ty.expand (u.valueAt ty.size a)) (regSlot rs)) := by
  unfold State.loadMemory
  rw [loadWord_eq h, hd]; rfl

theorem loadMemory_double (hd : ty.isDouble = true) (hf : followSlot rs = some rsf) (h : u.readable base a) (h' : u.readable base (a + 4)) :
    u.loadMemory ty base a rs =
      .next ((((u.afterRead ty.size a).afterRead ty.size (a + 4)).writeSlot (u.valueAt ty.size a) (regSlot rs)).writeSlot
        ((u.afterRead ty.size a).valueAt ty.size (a + 4)) rsf) := by
  have hsecond : (u.afterRead ty.size a).readable base (a + 4) := h'
  unfold State.loadMemory withFollower
  rw [loadWord_eq h, hd, hf, andThen_next]
  dsimp only
  rw [if_pos rfl, loadWord_eq hsecond]
  simp only [andThen_next, DataType.expand_of_isDouble hd]

end

/-- Settles O52, by the body that the loads share. -/
theorem loadsFromMemory : Obligations.LoadsFromMemory := by
  intro i x s hi hx hr u z a v
  rw [exec_load hi, Access.run_eq hx hr]
  unfold Access.load
  rw [Access.loadForbidden_eq]
  have hread {b : Word} (h : s.readable (x.baseOf s) b) : u.readable (x.baseOf s) b := Access.advance_readable.mpr h
  have hfirst : u.valueAt z a = s.valueAt z a := Access.advance_valueAt
  refine ⟨fun hl => by simp [hl], fun hl hn => by simp [hl, hn, u], fun hl hn ha hd => ?_, fun hl hn ha hb hd rsf hf => ?_⟩
  all_goals
    have hput := writeSlot_general (Access.notPcSr_of_loadable hl)
    simp only [hl, hn, Bool.not_true, Bool.false_eq_true, if_false]
  · rw [loadMemory_single hd (hread ha), hput, hfirst]; rfl
  · have hsecond : (u.afterRead z a).valueAt z (a + 4) = (s.afterRead z a).valueAt z (a + 4) := Access.advance_valueAt_afterRead
    have hv : v = s.valueAt z a := DataType.expand_of_isDouble hd _
    rw [loadMemory_double hd hf (hread ha) (hread hb), hput, writeSlot_eq, hfirst, hsecond, hv]; rfl

/-! ### Stores (40 R201 to R216) -/

theorem outsideSigned_eq (w : Nat) (x : Int) : outsideSigned w x = !decide (-(2 ^ (w - 1)) ≤ x ∧ x ≤ 2 ^ (w - 1) - 1) := by
  rw [outsideSigned, Bool.eq_iff_iff]
  simp only [Bool.or_eq_true, decide_eq_true_eq, Bool.not_eq_true', decide_eq_false_iff_not]
  omega

section

variable {u : State} {ty : DataType} {base a v low : Word}

theorem DataType.storeRange_of_isDouble (h : ty.isDouble = true) (v : Word) : ty.storeRange v = false := by
  cases ty with
  | double => rfl
  | _ => cases h

theorem storeWord_eq (h : u.storable base a) : u.storeWord ty base a v = .next (u.written ty.size a v) := by
  obtain ⟨hi, hr⟩ := h
  unfold State.storeWord
  rw [hi]; exact memWrite_eq hr

theorem written_storable {z : Size} {b : Word} : (u.written z b v).storable base a ↔ u.storable base a := by
  unfold State.storable; rw [written_areaRefusal]

theorem storeMemory_single (hd : ty.isDouble = false) (h : u.storable base a) :
    u.storeMemory ty base a v low = .next (u.written ty.size a v) := by
  unfold State.storeMemory
  rw [storeWord_eq h, hd]; rfl

theorem storeMemory_double (hd : ty.isDouble = true) (h : u.storable base a) (h' : u.storable base (a + 4)) :
    u.storeMemory ty base a v low = .next ((u.written ty.size a v).written ty.size (a + 4) low) := by
  unfold State.storeMemory
  rw [storeWord_eq h, hd, andThen_next, if_pos rfl, storeWord_eq (written_storable.mpr h')]

end

/-- The register after the data register, read when the address register has advanced (40 R179). -/
theorem Access.advance_readSlot {x : Access} {s : State} {rsf : Slot} (hx : x.encodable = true) (hf : followSlot x.data = some rsf) :
    (x.advance s (s.begin x.len)).readSlot rsf =
      match x.base, x.bump with
      | some r, some d => if regSlot r = rsf then s.operand x.len r + d else s.slotDuring x.len rsf
      | _, _ => s.slotDuring x.len rsf := by
  obtain ⟨type, base, dis, bump, data, len⟩ := x
  cases base with
  | none => exact State.begin_readSlot ..
  | some r =>
    cases bump with
    | none => exact State.begin_readSlot ..
    | some d =>
      have hr := Access.base_general hx rfl rfl
      show ((s.begin len).put r (s.operand len r + d)).readSlot rsf = if regSlot r = rsf then s.operand len r + d else s.slotDuring len rsf
      split
      · rename_i he; rw [← he]; exact State.readSlot_put_same _ _ hr
      · rename_i hne; rw [State.readSlot_put_ne _ _ hr (followSlot_named hf) hne, State.begin_readSlot]

/-- Settles O53, by the body that the stores share. -/
theorem storesToMemory : Obligations.StoresToMemory := by
  intro i x s hi hx hr u z a v range
  rw [exec_store hi, Access.run_eq hx hr]
  unfold Access.store
  have hstore {b : Word} (h : s.storable (x.baseOf s) b) : u.storable (x.baseOf s) b := Access.advance_storable.mpr h
  refine ⟨fun hd hs hf => ?_, fun hd hn => ?_, fun hd hn ha => ?_, fun hd low hlow => ?_⟩
  · rw [hd, withStoredLow_refused hs hf]; rfl
  · rw [hd, withStoredLow_single, hn]; rfl
  · have hrange : x.type.storeRange v = range := by
      cases ht : x.type <;> simp only [range, ht, DataType.storeRange, outsideSigned_eq] <;> rfl
    rw [hd, withStoredLow_single, hn]
    simp only [Bool.false_eq_true, if_false]
    rw [storeMemory_single hd (hstore ha), andThen_next, hrange]
    cases range <;> rfl
  · rw [hd, withStoredLow_double (low := low) ?low]
    case low =>
      cases hs : x.data.isSr with
      | true => simpa only [hs, if_true] using hlow
      | false =>
        simp only [hs, Bool.false_eq_true, if_false] at hlow ⊢
        obtain ⟨rsf, hf, hlow⟩ := hlow
        exact ⟨rsf, hf, hlow.trans (Access.advance_readSlot hx hf).symm⟩
    refine ⟨fun hn => by rw [hn]; rfl, fun hn ha hb => ?_⟩
    rw [hn]
    simp only [Bool.false_eq_true, if_false]
    rw [storeMemory_double hd (hstore ha) (hstore hb), andThen_next, DataType.storeRange_of_isDouble hd]; rfl

/-! ### The stack address mode (40 R200, R217) -/

theorem stackRead_below {t : State} {a : Word} (h : a.toNat < t.sp.toNat) (hr : t.readRefusal a = none) :
    t.stackRead a = .next (t.valueAt .word a, t.afterRead .word a) := by
  rw [((stackAddressMode t a 0).1 h).1, State.memRead, hr]

theorem stackRead_above {t : State} {a : Word} (h : t.sp.toNat ≤ a.toNat) : t.stackRead a = .next (t.readAbsolute a, t) :=
  if_neg (Nat.not_lt.mpr h)

theorem stackWrite_below {t : State} {a v : Word} (h : a.toNat < t.sp.toNat) (hr : t.areaRefusal (areaOf a) = none) :
    t.stackWrite a v = .next (t.written .word a v) := by
  rw [((stackAddressMode t a v).1 h).2, memWrite_eq hr]

theorem stackWrite_above {t : State} {a v : Word} (h : t.sp.toNat ≤ a.toNat) : t.stackWrite a v = .next (t.writeAbsolute a v) :=
  if_neg (Nat.not_lt.mpr h)

theorem stackAccess_encodable {rd rs : Reg} {dis : DisW} (h : rd.notPcSr = true) : (stackAccess rd rs dis).encodable = true := by
  rw [Reg.notPcSr, Bool.and_comm] at h; exact h

theorem stackAccess_loadable (rd rs : Reg) (dis : DisW) :
    (stackAccess rd rs dis).loadable = match rs with | .l _ => true | .g c => decide (2 ≤ c.toNat ∧ c.toNat ≤ 13) := by
  cases rs with
  | l c => rfl
  | g c => simp [Access.loadable, stackAccess, DataType.isDouble]

theorem stackAccess_nullPointer {rd rs : Reg} {dis : DisW} {s : State} :
    (stackAccess rd rs dis).nullPointer s = decide (s.operand (disWLength dis) rd = 0) := by
  show (s.operand (disWLength dis) rd == 0) = _
  exact Bool.beq_eq_decide_eq ..

section

variable {x : Access} {s u t : State} {v : Word}

theorem Access.stackLoad_forbidden (hl : x.loadable = false) : x.stackLoad s u = .refused .loadDestination := by
  simp [Access.stackLoad, Access.loadForbidden_eq, hl]

theorem Access.stackLoad_null (hl : x.loadable = true) (hn : x.nullPointer s = true) : x.stackLoad s u = .next (x.advance s u, true) := by
  simp [Access.stackLoad, Access.loadForbidden_eq, hl, hn]

theorem Access.stackLoad_next (hl : x.loadable = true) (hn : x.nullPointer s = false) (h : u.stackRead (x.baseOf s) = .next (v, t)) :
    x.stackLoad s u = .next ((x.advance s t).put x.data v, false) := by
  rw [← writeSlot_general (Access.notPcSr_of_loadable hl)]
  simp [Access.stackLoad, Access.loadForbidden_eq, hl, hn, h, done]

theorem Access.stackStore_null (hn : x.nullPointer s = true) : x.stackStore s u = .next (x.advance s u, true) := by
  simp [Access.stackStore, hn]

theorem Access.stackStore_next (hn : x.nullPointer s = false)
    (h : (x.advance s u).stackWrite (x.baseOf s) (s.stored x.len x.data) = .next t) : x.stackStore s u = .next (t, false) := by
  simp [Access.stackStore, hn, h, done]

end

/-- Settles O54, by what the two bodies answer at zero, from SP on and below it. -/
theorem stackModeInstructions : Obligations.StackModeInstructions := by
  intro rd rs dis s hrd hr len a u w
  let x := stackAccess rd rs dis
  have hx : x.encodable = true := stackAccess_encodable hrd
  have hzero (h : a = 0) : x.nullPointer s = true := stackAccess_nullPointer.trans (decide_eq_true h)
  have hnonzero (h : a ≠ 0) : x.nullPointer s = false := stackAccess_nullPointer.trans (decide_eq_false h)
  have hwrite (t : State) (h : w.stackWrite a (s.stored len rs) = .next t) (ha : a ≠ 0) : x.stackStore s u = .next (t, false) :=
    Access.stackStore_next (hnonzero ha) h
  have hsp : w.sp = s.sp := Access.advance_sp (x := x)
  have harea : w.areaRefusal (areaOf a) = s.areaRefusal (areaOf a) := Access.advance_areaRefusal (x := x) _
  have hexecLoad : exec (.ldwS rd rs dis) s = finish s.delay (x.stackLoad s u) := (exec_ldwS_eq ..).trans (Access.run_eq hx hr)
  have hexecStore : exec (.stwS rd rs dis) s = finish s.delay (x.stackStore s u) := (exec_stwS_eq ..).trans (Access.run_eq hx hr)
  rw [hexecLoad, hexecStore]
  refine ⟨fun hl => ?_, fun hl => ?_, fun ha => ?_, fun ha habove => ?_, fun ha hbelow hmapped => ?_⟩
  · replace hl : x.loadable = true := (stackAccess_loadable rd rs dis).trans hl
    refine ⟨fun ha => ?_, fun ha habove => ?_, fun ha hbelow hmapped => ?_⟩
    · rw [Access.stackLoad_null hl (hzero ha)]; rfl
    · have h : u.stackRead a = .next (s.readAbsolute a, u) := stackRead_above habove
      rw [Access.stackLoad_next hl (hnonzero ha) h]; rfl
    · have h : u.stackRead a = .next (s.valueAt .word a, u.afterRead .word a) := stackRead_below hbelow hmapped
      rw [Access.stackLoad_next hl (hnonzero ha) h, Access.advance_afterRead]; rfl
  · rw [Access.stackLoad_forbidden ((stackAccess_loadable rd rs dis).trans hl)]; rfl
  · rw [Access.stackStore_null (hzero ha)]; rfl
  · rw [hwrite _ (stackWrite_above (hsp ▸ habove)) ha]; rfl
  · rw [hwrite _ (stackWrite_below (hsp ▸ hbelow) (harea.trans hmapped)) ha]; rfl

/-! ### The status register (40 R172) -/

/-- `t` is an end of an instruction that, begun at `s`, leaves the SR but for what every instruction does with P, H and the ILC (10_state R32, R40,
R42). -/
def State.EndsKeepingSr (s t : State) : Prop :=
  ∃ u : State, (t = u.settle s.delay ∨ s.raises u = .next t) ∧ u.sr = { s.sr with p := true, h := false, ilc := u.sr.ilc }

theorem State.underway_sr (s : State) (len : Nat) :
    (s.underway len 0 s.flags).sr = { s.sr with p := true, h := false, ilc := (s.underway len 0 s.flags).sr.ilc } := by
  unfold State.underway State.srDuring; split <;> rfl

/-- The entry of an error exception leaves the flags (60 R470). -/
theorem raises_flags {s u t : State} (h : s.raises u = .next t) :
    t.sr.c = u.sr.c ∧ t.sr.z = u.sr.z ∧ t.sr.n = u.sr.n ∧ t.sr.v = u.sr.v := by
  obtain ⟨e, -, rfl⟩ := takeException_inv h
  exact ⟨rfl, rfl, rfl, rfl⟩

theorem State.EndsKeepingSr.flags {s t : State} (h : s.EndsKeepingSr t) :
    t.sr.c = s.sr.c ∧ t.sr.z = s.sr.z ∧ t.sr.n = s.sr.n ∧ t.sr.v = s.sr.v := by
  obtain ⟨u, he, hu⟩ := h
  have hflags : t.sr.c = u.sr.c ∧ t.sr.z = u.sr.z ∧ t.sr.n = u.sr.n ∧ t.sr.v = u.sr.v := by
    rcases he with rfl | he
    · simp
    · exact raises_flags he
  rwa [hu] at hflags

section

variable {len : Nat} {g b : Bool} {s t u : State} {x : Access} {e : Bool}

/-- An instruction keeps the SR where its body does. -/
theorem instruction_keepsSr {body : State → State → Out (State × Bool)} (h : instruction len g b s body = .next t)
    (hb : ∀ w u e, body (s.begin len) w = .next (u, e) → u.sr = w.sr) : s.EndsKeepingSr t := by
  obtain ⟨-, u, e, hu, he⟩ := instruction_inv h
  refine ⟨u, he.imp And.right And.right, ?_⟩
  rw [hb _ u e hu]; exact s.underway_sr len

theorem Access.run_keepsSr {body : Access → State → State → Out (State × Bool)} (h : x.run body s = .next t)
    (hb : ∀ w u e, body x s w = .next (u, e) → u.sr = w.sr) : s.EndsKeepingSr t :=
  instruction_keepsSr (Access.guarded_inv h) hb

@[simp] theorem written_sr (t : State) (z : Size) (a v : Word) : (t.written z a v).sr = t.sr := by rw [written_frame]

theorem State.writeSlot_sr (s : State) (v : Word) {y : Slot} (hy : y ≠ .sr) : (s.writeSlot v y).sr = s.sr := by
  cases y with
  | sr => exact absurd rfl hy
  | _ => rfl

/-! The registers that a load may name, and those following them, are not the SR. -/

theorem general_of_not_forbidden {ty : DataType} {r : Reg} (h : loadForbidden ty r = false) : r.notPcSr = true := by
  let x : Access := ⟨ty, none, 0, none, r, 0⟩
  have hx : (!x.loadable) = false := x.loadForbidden_eq.symm.trans h
  exact Access.notPcSr_of_loadable (x := x) (by simpa using hx)

theorem regSlot_ne_sr {r : Reg} (h : r.notPcSr = true) : regSlot r ≠ .sr := fun hc => by
  rw [regSlot_eq_sr hc] at h; cases h

theorem followSlot_ne_sr {r : Reg} {y : Slot} (h : r.notPcSr = true) (hf : followSlot r = some y) : y ≠ .sr := by
  rintro rfl
  rw [Reg.notPcSr, followSlot_sr hf] at h; cases h

theorem memRead_sr {z : Size} {a v : Word} (h : s.memRead z a = .next (v, t)) : t.sr = s.sr := by
  obtain ⟨-, -, rfl⟩ := memRead_inv h; rfl

theorem memWrite_sr {z : Size} {a v : Word} (h : s.memWrite z a v = .next t) : t.sr = s.sr := by
  obtain ⟨-, rfl⟩ := memWrite_inv h; exact written_sr ..

theorem loadWord_sr {ty : DataType} {base a v : Word} (h : s.loadWord ty base a = .next (v, t)) : t.sr = s.sr := by
  unfold State.loadWord at h
  split at h
  · cases h
  · obtain ⟨⟨v', t'⟩, hr, ht⟩ := andThen_inv h
    cases ht; exact memRead_sr hr

theorem storeWord_sr {ty : DataType} {base a v : Word} (h : s.storeWord ty base a v = .next t) : t.sr = s.sr := by
  unfold State.storeWord at h
  split at h
  · cases h
  · exact memWrite_sr h

theorem ioRead_sr {a v : Word} (h : s.ioRead a = .next (v, t)) : t.sr = s.sr := by
  rcases ioRead_inv h with ⟨-, rfl⟩ | ⟨-, rfl⟩ <;> rfl

theorem ioWrite_sr {a v : Word} (h : s.ioWrite a v = .next t) : t.sr = s.sr := by
  rcases ioWrite_inv h with rfl | rfl | rfl <;> rfl

theorem stackRead_sr {a v : Word} (h : s.stackRead a = .next (v, t)) : t.sr = s.sr := by
  rcases stackRead_inv h with ⟨-, hr⟩ | ⟨-, -, rfl⟩
  · exact memRead_sr hr
  · rfl

theorem stackWrite_sr {a v : Word} (h : s.stackWrite a v = .next t) : t.sr = s.sr := by
  rcases stackWrite_inv h with ⟨-, hw⟩ | ⟨-, rfl⟩
  · exact memWrite_sr hw
  · rfl

theorem loadMemory_sr {ty : DataType} {base a : Word} {rs : Reg} (hrs : rs.notPcSr = true) (h : s.loadMemory ty base a rs = .next t) :
    t.sr = s.sr := by
  obtain ⟨⟨v, t1⟩, h1, h⟩ := andThen_inv h
  dsimp only at h
  split at h
  · obtain ⟨rsf, hf, h⟩ := withFollower_inv h
    obtain ⟨⟨vf, t2⟩, h2, h⟩ := andThen_inv h
    cases h
    rw [State.writeSlot_sr _ _ (followSlot_ne_sr hrs hf), State.writeSlot_sr _ _ (regSlot_ne_sr hrs), loadWord_sr h2, loadWord_sr h1]
  · cases h
    rw [State.writeSlot_sr _ _ (regSlot_ne_sr hrs), loadWord_sr h1]

theorem loadIo_sr {double : Bool} {a : Word} {rs : Reg} (hrs : rs.notPcSr = true) (h : s.loadIo double a rs = .next t) : t.sr = s.sr := by
  obtain ⟨⟨v, t1⟩, h1, h⟩ := andThen_inv h
  dsimp only at h
  split at h
  · obtain ⟨rsf, hf, h⟩ := withFollower_inv h
    obtain ⟨⟨vf, t2⟩, h2, h⟩ := andThen_inv h
    cases h
    rw [State.writeSlot_sr _ _ (followSlot_ne_sr hrs hf), State.writeSlot_sr _ _ (regSlot_ne_sr hrs), ioRead_sr h2, ioRead_sr h1]
  · cases h
    rw [State.writeSlot_sr _ _ (regSlot_ne_sr hrs), ioRead_sr h1]

theorem storeMemory_sr {ty : DataType} {base a v vf : Word} (h : s.storeMemory ty base a v vf = .next t) : t.sr = s.sr := by
  obtain ⟨t1, h1, h⟩ := andThen_inv h
  split at h
  · exact (storeWord_sr h).trans (storeWord_sr h1)
  · cases h; exact storeWord_sr h1

theorem storeIo_sr {double : Bool} {a v vf : Word} (h : s.storeIo double a v vf = .next t) : t.sr = s.sr := by
  obtain ⟨t1, h1, h⟩ := andThen_inv h
  split at h
  · exact (ioWrite_sr h).trans (ioWrite_sr h1)
  · cases h; exact ioWrite_sr h1

/-! The bodies. -/

variable {w : State}

theorem Access.load_sr (h : x.load s w = .next (u, e)) : u.sr = w.sr := by
  obtain ⟨hf, h⟩ := refusedIf_inv h
  split at h
  · cases h; exact Access.advance_sr
  · obtain ⟨y, hy, h⟩ := andThen_inv h
    cases h; exact (loadMemory_sr (general_of_not_forbidden hf) hy).trans Access.advance_sr

theorem Access.store_sr (h : x.store s w = .next (u, e)) : u.sr = w.sr := by
  obtain ⟨low, h⟩ := withStoredLow_inv h
  split at h
  · cases h; exact Access.advance_sr
  · obtain ⟨y, hy, h⟩ := andThen_inv h
    cases h; exact (storeMemory_sr hy).trans Access.advance_sr

theorem Access.stackLoad_sr (h : x.stackLoad s w = .next (u, e)) : u.sr = w.sr := by
  obtain ⟨hf, h⟩ := refusedIf_inv h
  split at h
  · cases h; exact Access.advance_sr
  · obtain ⟨⟨v, y⟩, hy, h⟩ := andThen_inv h
    cases h
    rw [State.writeSlot_sr _ _ (regSlot_ne_sr (general_of_not_forbidden hf)), Access.advance_sr, stackRead_sr hy]

theorem Access.stackStore_sr (h : x.stackStore s w = .next (u, e)) : u.sr = w.sr := by
  unfold Access.stackStore at h
  split at h
  · cases h; exact Access.advance_sr
  · obtain ⟨y, hy, h⟩ := andThen_inv h
    cases h; exact (stackWrite_sr hy).trans Access.advance_sr

/-! The address modes of the I/O space. -/

variable {double : Bool} {rd rs : Reg} {dis : Word}

theorem loadIoDis_keepsSr (h : loadIoDis len double rd rs dis s = .next t) : s.EndsKeepingSr t :=
  instruction_keepsSr h fun w u e hu => by
    obtain ⟨hf, hu⟩ := refusedIf_inv hu
    split at hu
    · cases hu; rfl
    · obtain ⟨y, hy, hu⟩ := andThen_inv hu
      cases hu; exact loadIo_sr (general_of_not_forbidden hf) hy

theorem loadIoAbs_keepsSr (h : loadIoAbs len double rs dis s = .next t) : s.EndsKeepingSr t :=
  instruction_keepsSr h fun w u e hu => by
    obtain ⟨hf, hu⟩ := refusedIf_inv hu
    obtain ⟨y, hy, hu⟩ := andThen_inv hu
    cases hu; exact loadIo_sr (general_of_not_forbidden hf) hy

theorem storeIoDis_keepsSr (h : storeIoDis len double rd rs dis s = .next t) : s.EndsKeepingSr t :=
  instruction_keepsSr h fun w u e hu => by
    obtain ⟨low, hu⟩ := withStoredLow_inv hu
    split at hu
    · cases hu; rfl
    · obtain ⟨y, hy, hu⟩ := andThen_inv hu
      cases hu; exact storeIo_sr hy

theorem storeIoAbs_keepsSr (h : storeIoAbs len double rs dis s = .next t) : s.EndsKeepingSr t :=
  instruction_keepsSr h fun w u e hu => by
    obtain ⟨low, hu⟩ := withStoredLow_inv hu
    obtain ⟨y, hy, hu⟩ := andThen_inv hu
    cases hu; exact storeIo_sr hy

/-! The instructions. -/

theorem exec_ioLoad_keepsSr {i : Instr} (hi : i.ioLoadForm = some x) (h : exec i s = .next t) : s.EndsKeepingSr t := by
  cases i with
  | ldwIod | lddIod => dsimp only [exec] at h; exact loadIoDis_keepsSr h
  | ldwIoa | lddIoa => dsimp only [exec] at h; exact loadIoAbs_keepsSr h
  | _ => cases hi

theorem exec_ioStore_keepsSr {i : Instr} (hi : i.ioStoreForm = some x) (h : exec i s = .next t) : s.EndsKeepingSr t := by
  cases i with
  | stwIod | stdIod => dsimp only [exec] at h; exact storeIoDis_keepsSr h
  | stwIoa | stdIoa => dsimp only [exec] at h; exact storeIoAbs_keepsSr h
  | _ => cases hi

theorem exec_load_keepsSr {i : Instr} (hi : i.loadForm = some x) (h : exec i s = .next t) : s.EndsKeepingSr t := by
  rw [exec_load hi] at h
  exact Access.run_keepsSr h fun _ _ _ => Access.load_sr

theorem exec_store_keepsSr {i : Instr} (hi : i.storeForm = some x) (h : exec i s = .next t) : s.EndsKeepingSr t := by
  rw [exec_store hi] at h
  exact Access.run_keepsSr h fun _ _ _ => Access.store_sr

theorem exec_ldwS_keepsSr {dis : DisW} (h : exec (.ldwS rd rs dis) s = .next t) : s.EndsKeepingSr t := by
  rw [exec_ldwS_eq] at h
  exact Access.run_keepsSr h fun _ _ _ => Access.stackLoad_sr

theorem exec_stwS_keepsSr {dis : DisW} (h : exec (.stwS rd rs dis) s = .next t) : s.EndsKeepingSr t := by
  rw [exec_stwS_eq] at h
  exact Access.run_keepsSr h fun _ _ _ => Access.stackStore_sr

end

/-- A load or store is one of a table, or of the stack address mode. -/
theorem accessesMemory_cases {i : Instr} (h : i.accessesMemory = true) :
    (∃ x, i.loadForm = some x) ∨ (∃ x, i.storeForm = some x) ∨ (∃ x, i.ioLoadForm = some x) ∨ (∃ x, i.ioStoreForm = some x) ∨
      (∃ rd rs dis, i = .ldwS rd rs dis) ∨ ∃ rd rs dis, i = .stwS rd rs dis := by
  simp only [Instr.accessesMemory, Bool.or_eq_true, Option.isSome_iff_exists, or_assoc] at h
  refine h.imp_right (Or.imp_right (Or.imp_right (Or.imp_right fun hs => ?_)))
  split at hs
  · exact .inl ⟨_, _, _, rfl⟩
  · exact .inr ⟨_, _, _, rfl⟩
  · cases hs

/-- Settles O21: no body of a load or store writes the SR. -/
theorem memoryInstructionsKeepTheFlags : Obligations.MemoryInstructionsKeepTheFlags := by
  intro i s t hi h
  suffices hk : s.EndsKeepingSr t from ⟨hk.flags, hk⟩
  obtain ⟨x, hx⟩ | ⟨x, hx⟩ | ⟨x, hx⟩ | ⟨x, hx⟩ | ⟨rd, rs, dis, rfl⟩ | ⟨rd, rs, dis, rfl⟩ := accessesMemory_cases hi
  · exact exec_load_keepsSr hx h
  · exact exec_store_keepsSr hx h
  · exact exec_ioLoad_keepsSr hx h
  · exact exec_ioStore_keepsSr hx h
  · exact exec_ldwS_keepsSr h
  · exact exec_stwS_keepsSr h

end Sys2Proof.Machine

/-! ## Moves and logical instructions (41_move_logical R230 to R244)

A move to or from a high global register is a read that uses up free values, then a write: `moveHigh` is settled once for each kind of
destination, from what the read answers. -/

namespace Sys2Proof.Machine

/-! ### The logical instructions (41 R234 to R242) -/

/-- A bitwise result to Rd, of the flags Z alone. -/
theorem logical_answersResult {len : Nat} {g : Bool} {rd : Reg} {s : State} {f : State → Word} {v : Word} (h : s.runs len g)
    (hv : f (s.begin len) = v) :
    answersResult (logical len g rd s f) s len 0 rd v { c := s.sr.c, z := v == 0, n := s.sr.n, v := s.sr.v } :=
  compute_answersResult h rfl hv (by rw [← hv, State.begin_flags]; rfl)

/-- Settles O26: each of them is `logical` of its operands as the instruction finds them. -/
theorem logicalResults : Obligations.LogicalResults := by
  intro rd rs imm const s
  simp only [exec_and, exec_andn, exec_or, exec_xor, exec_not, exec_andni, exec_ori, exec_xori, exec_mask, execAnd, execAndn, execOr, execXor,
    execNot, execAndni, execOri, execXori, execMask, eitherGlobal]
  refine ⟨fun h => ⟨?_, ?_, ?_, ?_, ?_⟩, fun h => ⟨?_, ?_, ?_⟩, fun h => ?_⟩
  all_goals exact logical_answersResult h (by simp only [State.begin_readReg])

/-! ### MOVD (41 R233) -/

/-- A slot that is not the PC reads as just written; of the SR the low half was written (10_state R27). -/
theorem readSlot_writeSlot_same (s : State) (v : Word) {x : Slot} (h : x ≠ .pc) :
    (s.writeSlot v x).readSlot x = if x = .sr then (s.sr.setLow v).toWord else v := by
  cases x with
  | loc k => exact readLocal_writeLocal_same ..
  | pc => exact absurd rfl h
  | sr => rfl
  | glob c => exact readGlobal_writeGlobal_same ..

theorem regSlot_eq_sr_iff (r : Reg) : regSlot r = .sr ↔ r.isSr = true := by
  refine ⟨fun h => ?_, fun h => by rw [regSlot_sr h]; rfl⟩
  rw [regSlot_eq_sr h]; rfl

/-- The low-order word, in the words of the statement. -/
theorem movdLow_begin (s : State) (rd rs : Reg) {rsf : Slot} (h : followSlot rs = some rsf) :
    movdLow (s.begin 1) rd rs rsf =
      if rsf = regSlot rd then (if rd.isSr then ((s.srDuring 1).setLow (s.operand 1 rs)).toWord else s.operand 1 rs)
      else s.slotDuring 1 rsf := by
  unfold movdLow
  rw [State.begin_readReg]
  by_cases hx : rsf = regSlot rd
  · subst hx
    rw [if_pos rfl, readSlot_writeSlot_same _ _ (followSlot_ne_pc h), State.begin_sr]
    simp only [regSlot_eq_sr_iff]
  · rw [if_neg hx, readSlot_writeSlot_ne _ _ (regSlot_named rd) (followSlot_named h) (Ne.symm hx), State.begin_readSlot]

theorem append_eq_zero_iff {hi lo : Word} : hi ++ lo = (0 : BitVec 64) ↔ hi = 0 ∧ lo = 0 := by
  refine ⟨fun h => ⟨?high, ?low⟩, fun ⟨hhi, hlo⟩ => by rw [hhi, hlo]; rfl⟩
  case high => rw [← BitVec.extractLsb'_append_eq_left (a := hi) (b := lo), h]; rfl
  case low => rw [← BitVec.extractLsb'_append_eq_right (a := hi) (b := lo), h]; rfl

/-- Z and N of a double-word by its halves. -/
theorem moveFlags64_append (hi lo : Word) (v : Bool) (old : Flags) :
    moveFlags64 (hi ++ lo) v old = { old with z := hi == 0 && lo == 0, n := hi.msb, v := v } := by
  have hz : (hi ++ lo == (0 : BitVec 64)) = (hi == 0 && lo == 0) := by
    rw [Bool.eq_iff_iff, Bool.and_eq_true, beq_iff_eq, beq_iff_eq, beq_iff_eq, append_eq_zero_iff]
  have hn : (hi ++ lo : BitVec 64).msb = hi.msb := by rw [BitVec.msb_append, if_neg (by decide)]
  rw [moveFlags64, hz, hn]

/-- Settles O25: with the SR as source it is a pair of zeros, otherwise the pair that `movdLow_begin` describes, where Rs has a follower. -/
theorem moveDouble : Obligations.MoveDouble := by
  intro rd rs s h
  have copies (hs : rs.isSr = false) : exec (.movd rd rs) s = finish s.delay (withFollower rs fun rsf =>
      (s.underway 1 1 s.flags).writePair rd (s.operand 1 rs) (movdLow (s.begin 1) rd rs rsf)
        (moveFlags64 (s.operand 1 rs ++ movdLow (s.begin 1) rd rs rsf) s.anyV s.flags)) := by
    rw [exec_movd, execMovd, if_neg (by simp [hs]), eitherGlobal, instruction_eq (frameRefusal_runs h)]
    simp only [underway_drawn, Nat.zero_add, State.begin_readReg, State.begin_freeV, State.begin_flags]
  refine ⟨fun hs => ?zero, fun hs hf => ?noFollower, fun hs rsf hf => ?copy⟩
  case zero =>
    rw [exec_movd, execMovd, if_pos hs]
    exact computePair_answersPair h fun rdf _ => by rw [State.begin_freeV, State.begin_flags]; rfl
  case noFollower => rw [copies hs, withFollower, hf]; rfl
  case copy =>
    simp only [copies hs, withFollower, hf, moveFlags64_append, movdLow_begin s rd rs hf]
    exact writePair_answers

/-! ### The high global registers (10_state R20, R55 to R59) -/

theorem reservedHigh_cases {c : BitVec 4} (h : c = 0 ∨ c = 1 ∨ 12 ≤ c.toNat) :
    c = 0 ∨ c = 1 ∨ c = 12 ∨ c = 13 ∨ c = 14 ∨ c = 15 := by
  revert c; decide

theorem readHigh_reserved {c : BitVec 4} (u : State) (h : c = 0 ∨ c = 1 ∨ 12 ≤ c.toNat) : u.readHigh c = .refused .reservedRegister := by
  rcases reservedHigh_cases h with rfl | rfl | rfl | rfl | rfl | rfl <;> rfl

theorem writeHigh_reserved {c : BitVec 4} (u : State) (v : Word) (h : c = 0 ∨ c = 1 ∨ 12 ≤ c.toNat) :
    u.writeHigh c v = .refused .reservedRegister := by
  rcases reservedHigh_cases h with rfl | rfl | rfl | rfl | rfl | rfl <;> rfl

/-- There is no other refusal of a read. -/
theorem readHigh_refused_inv {c : BitVec 4} {u : State} {x : Refusal} (h : u.readHigh c = .refused x) : x = .reservedRegister := by
  unfold State.readHigh at h
  split at h <;> cases h
  rfl

theorem zero_append_eq_setWidth (x : BitVec 16) : (0#16 ++ x : Word) = x.setWidth 32 := by
  rw [BitVec.setWidth_eq_append (by decide)]; rfl

theorem readHigh_writeOnly {c : BitVec 4} (u : State) (h : c = 4 ∨ c = 5 ∨ c = 10 ∨ c = 11) :
    u.readHigh c = .next (u.fresh, u.drawn 1) := by
  rcases h with rfl | rfl | rfl | rfl <;> rfl

theorem readHigh_plain {c : BitVec 4} {v : Word} {u : State} (h : u.highPlain c = some v) : u.readHigh c = .next (v, u) := by
  unfold State.highPlain at h
  split at h <;> cases h
  case h_5 => rw [zero_append_eq_setWidth]; rfl
  all_goals rfl

/-- The ISR as read, whatever stands for the levels that the spec leaves open (10_state R56). -/
theorem isr_isrShows (u : State) (free : Word) : u.isrShows (u.isr free) := by
  unfold State.isrShows
  simp only [State.isr, BitVec.append_ofBool, BitVec.getLsbD_concat_succ, BitVec.getLsbD_concat_zero, true_and, and_true]
  refine ⟨?high, fun hd => ?io3, fun hd => ?io2, fun hd => ?io1⟩
  case high =>
    apply BitVec.eq_of_getLsbD_eq
    intro i _
    simp only [BitVec.getLsbD_extractLsb', Nat.add_comm 11, BitVec.getLsbD_concat_succ, BitVec.ofNat_eq_ofNat, BitVec.getLsbD_zero,
      Bool.and_false]
  case io3 => rw [State.io3Level, hd, Bool.not_true, Bool.and_false, if_neg Bool.false_ne_true, ioLevel, if_pos hd]
  case io2 => rw [ioLevel, if_pos hd]
  case io1 => rw [ioLevel, if_pos hd]

theorem writeFcr_eovPending (u : State) (v : Word) : (u.writeFcr v).eovPending = if v.getLsbD 16 then false else u.eovPending := by
  show (u.eovPending && !v.getLsbD 16) = _
  cases v.getLsbD 16 with
  | false => exact Bool.and_true _
  | true => exact Bool.and_false _

theorem highWritten_fcr (u : State) (v : Word) : highWritten u v 10 = some (u.writeFcr v) := by
  rw [show u.writeFcr v = { u.writeFcr v with eovPending := (u.writeFcr v).eovPending } from rfl, writeFcr_eovPending]; rfl

/-- A high global register is written alike whether the flags and the free values used are updated before or after it. -/
theorem writeHigh_of_highWritten {u t : State} {k : Nat} {f : Flags} {v : Word} {c : BitVec 4}
    (h : highWritten ((u.drawn k).setFlags f) v c = some t) :
    ∃ w, u.writeHigh c v = .next w ∧ t = (w.drawn k).setFlags f ∧ w.freeV = u.freeV ∧ w.flags = u.flags := by
  by_cases hc : c = 10
  · subst hc
    rw [highWritten_fcr] at h
    cases h
    exact ⟨_, rfl, rfl, rfl, rfl⟩
  · unfold highWritten at h
    split at h <;> cases h
    case h_9 => exact absurd rfl hc
    all_goals exact ⟨_, rfl, rfl, rfl, rfl⟩

/-! ### A move with H = 1 (41 R243) -/

/-- The two conditions on where an instruction stands are all that the frame asks of one that does not branch. -/
theorem runs_of_frameRefusal {s : State} {len : Nat} {g : Bool} (h : s.frameRefusal len g false = none) : s.runs len g := by
  unfold State.frameRefusal at h
  split at h
  · cases h
  · rename_i hg
    refine ⟨Bool.eq_false_iff.mpr hg, ?_⟩
    split at h
    · exact .inl (by assumption)
    · rw [if_neg (by decide)] at h
      split at h
      · cases h
      · exact .inr (by omega)

@[simp] theorem underway_sr_s (s : State) (len k : Nat) (f : Flags) : (s.underway len k f).sr.s = s.sr.s := by
  unfold State.underway State.srDuring; split <;> rfl

@[simp] theorem underway_readLocal (s : State) (len k j : Nat) (f : Flags) : (s.underway len k f).readLocal j = s.readLocal j := by
  unfold State.underway State.srDuring; split <;> rfl

/-- The flags of a move of v, after k free values. -/
theorem moveFlags_underway (s : State) (len k : Nat) (v : Word) :
    moveFlags v (s.underway len k s.flags).freeV (s.underway len k s.flags).flags = movedFlags s v k := rfl

theorem underway_freeFlags (s : State) (len : Nat) : (s.underway len 0 s.flags).freeFlags = s.underway len 1 s.anyFlagsOf := by
  rw [State.freeFlags, underway_drawn, underway_setFlags]; rfl

section

variable {s t : State} {len k : Nat} {rd : Reg} {c : BitVec 4} {v : Word} {read : State → Out (Word × State)}

theorem moveHigh_local (hr : s.runs len false) (hread : read (s.underway len 0 s.flags) = .next (v, s.underway len k s.flags)) :
    moveHigh len (.l c) s read = .next ((s.after len (k + 1) (movedFlags s v k)).writeLocal c.toNat v) := by
  rw [moveHigh, instruction_eq (frameRefusal_runs hr)]
  dsimp only
  rw [hread, andThen_next]
  dsimp only
  rw [moveFlags_underway, underway_drawn, State.writeLocal_setFlags, underway_setFlags, finish_done, State.settle_writeLocal, State.after]

theorem moveHigh_supervisor (hs : s.sr.s = true) (hr : s.runs len false)
    (hread : read (s.underway len 0 s.flags) = .next (v, s.underway len k s.flags))
    (hw : highWritten (s.underway len (k + 1) (movedFlags s v k)) v c = some t) :
    moveHigh len (.g c) s read = .next (t.settle s.delay) := by
  rw [← underway_setFlags s len (k + 1) s.flags, ← underway_drawn] at hw
  obtain ⟨w, hwrite, rfl, hfree, hflags⟩ := writeHigh_of_highWritten hw
  rw [moveHigh, instruction_eq (frameRefusal_runs hr)]
  dsimp only
  rw [underway_sr_s, if_pos hs, hread, andThen_next]
  dsimp only
  rw [hwrite, andThen_next, hfree, hflags, moveFlags_underway, finish_done]

theorem moveHigh_user (hs : s.sr.s = false) (hr : s.runs len false) :
    moveHigh len (.g c) s read = s.raises (s.underway len 1 s.anyFlagsOf) := by
  rw [moveHigh, instruction_eq (frameRefusal_runs hr)]
  dsimp only
  rw [underway_sr_s, if_neg (by simp [hs]), underway_freeFlags, finish_error]

/-- A source that is refused ends a move, but for one that user state may not do. -/
theorem moveHigh_source_reserved (hs : rd.isGlobal = true → s.sr.s = true) (hr : s.runs len false)
    (hread : read (s.underway len 0 s.flags) = .refused .reservedRegister) : moveHigh len rd s read = .refused .reservedRegister := by
  rw [moveHigh, instruction_eq (frameRefusal_runs hr)]
  cases rd with
  | l c => dsimp only; rw [hread]; rfl
  | g c => dsimp only; rw [underway_sr_s, if_pos (hs rfl), hread]; rfl

theorem moveHigh_dest_reserved (hc : c = 0 ∨ c = 1 ∨ 12 ≤ c.toNat) (hs : s.sr.s = true) (hr : s.runs len false)
    (hread : ∀ x, read (s.underway len 0 s.flags) = .refused x → x = .reservedRegister) :
    moveHigh len (.g c) s read = .refused .reservedRegister := by
  cases hx : read (s.underway len 0 s.flags) with
  | refused x => cases hread x hx; exact moveHigh_source_reserved (fun _ => hs) hr hx
  | fault x => cases x
  | next p =>
    rw [moveHigh, instruction_eq (frameRefusal_runs hr)]
    dsimp only
    rw [underway_sr_s, if_pos hs, hx, andThen_next, writeHigh_reserved _ _ hc]; rfl

end

/-! ### The sources of a move with H = 1, as the instruction finds them -/

section

variable (len : Nat) (s : State) {c : BitVec 4} {v : Word}

theorem underway_readHigh_plain (h : s.highPlain c = some v) :
    (s.underway len 0 s.flags).readHigh c = .next (v, s.underway len 0 s.flags) := readHigh_plain h

theorem underway_readHigh_writeOnly (h : c = 4 ∨ c = 5 ∨ c = 10 ∨ c = 11) :
    (s.underway len 0 s.flags).readHigh c = .next (s.draw 0, s.underway len 1 s.flags) := by
  rw [readHigh_writeOnly _ h, underway_drawn]; rfl

theorem underway_readHigh_isr : ∃ v, s.isrShows v ∧ (s.underway len 0 s.flags).readHigh 9 = .next (v, s.underway len 1 s.flags) :=
  ⟨s.isr (s.draw 0), isr_isrShows s _, rfl⟩

end

theorem exec_mov_high {rd rs : Reg} {s : State} (hh : s.sr.h = true) : exec (.mov rd rs) s = moveHigh 1 rd s fun w => w.readAnyHigh rs := by
  rw [exec_mov, execMov, if_pos hh]

theorem exec_movi_high {rd : Reg} {imm : Imm} {s : State} (hh : s.sr.h = true) :
    exec (.movi rd imm) s = moveHigh (immLength imm) rd s fun w => .next (immValue imm, w) := by
  rw [exec_movi, execMovi, if_pos hh]

theorem State.readAnyHigh_local (u : State) (c : BitVec 4) : u.readAnyHigh (.l c) = .next (u.readLocal c.toNat, u) := rfl

/-- MOV from a local register and MOVI have a source that is read without more. -/
theorem exec_move_plain {i : Instr} {rd : Reg} {ls : BitVec 4} {imm : Imm} {s : State} {len : Nat} {v : Word} (hh : s.sr.h = true)
    (hi : (i = .mov rd (.l ls) ∧ len = 1 ∧ v = s.readLocal ls.toNat) ∨ (i = .movi rd imm ∧ len = immLength imm ∧ v = immValue imm)) :
    ∃ read, exec i s = moveHigh len rd s read ∧ read (s.underway len 0 s.flags) = .next (v, s.underway len 0 s.flags) := by
  obtain ⟨rfl, rfl, rfl⟩ | ⟨rfl, rfl, rfl⟩ := hi
  · exact ⟨_, exec_mov_high hh, by rw [State.readAnyHigh_local, underway_readLocal]⟩
  · exact ⟨_, exec_movi_high hh, rfl⟩

/-! ### The statements about moves -/

/-- Settles O24: the three kinds of sources into a local register. -/
theorem moveFromHighGlobal : Obligations.MoveFromHighGlobal := by
  intro ld code s hh hd
  have hr : s.runs 1 false := ⟨Bool.and_false _, hd⟩
  rw [exec_mov_high hh]
  refine ⟨fun v hv => ?plain, fun hc => ?writeOnly, fun hc => ?isr, fun hc => ?reserved⟩
  case plain => exact moveHigh_local hr (underway_readHigh_plain 1 s hv)
  case writeOnly => exact moveHigh_local hr (underway_readHigh_writeOnly 1 s hc)
  case isr =>
    subst hc
    obtain ⟨v, hv, hread⟩ := underway_readHigh_isr 1 s
    exact ⟨v, hv, moveHigh_local hr hread⟩
  case reserved => exact moveHigh_source_reserved (fun hg => by cases hg) hr (readHigh_reserved _ hc)

/-- Settles O23: the same sources, and those of a plain move, into a high global register. -/
theorem moveToHighGlobal : Obligations.MoveToHighGlobal := by
  intro code ls src imm s hh
  refine ⟨fun i len v hi hd => ?fromPlain, fun hd => ⟨fun hs => ⟨?plain, ?writeOnly, ?isr, ?reserved⟩, fun hs => ?user⟩⟩
  case fromPlain =>
    have hr : s.runs len false := ⟨Bool.and_false _, hd⟩
    obtain ⟨read, he, hread⟩ := exec_move_plain hh hi
    have hread' (x : Refusal) (hx : read (s.underway len 0 s.flags) = .refused x) : x = .reservedRegister := by rw [hread] at hx; cases hx
    rw [he]
    exact ⟨fun hs t ht => moveHigh_supervisor hs hr hread ht, fun hs hc => moveHigh_dest_reserved hc hs hr hread',
      fun hs => moveHigh_user hs hr⟩
  all_goals
    have hr : s.runs 1 false := ⟨Bool.and_false _, hd⟩
    rw [exec_mov_high hh]
  case plain => exact fun v hv t ht => moveHigh_supervisor hs hr (underway_readHigh_plain 1 s hv) ht
  case writeOnly => exact fun hc t ht => moveHigh_supervisor hs hr (underway_readHigh_writeOnly 1 s hc) ht
  case isr =>
    rintro rfl
    obtain ⟨v, hv, hread⟩ := underway_readHigh_isr 1 s
    exact ⟨v, hv, fun t ht => moveHigh_supervisor hs hr hread ht⟩
  case reserved =>
    intro hc
    obtain hsrc | hcode : (src = 0 ∨ src = 1 ∨ 12 ≤ src.toNat) ∨ (code = 0 ∨ code = 1 ∨ 12 ≤ code.toNat) := by
      simpa only [or_assoc] using hc
    · exact moveHigh_source_reserved (fun _ => hs) hr (readHigh_reserved _ hsrc)
    · exact moveHigh_dest_reserved hcode hs hr fun x hx => readHigh_refused_inv hx
  case user => exact moveHigh_user hs hr

/-- A move into a local register clears H, wherever it can run. -/
theorem moveHigh_local_clears_h {s t : State} {len : Nat} {c : BitVec 4} {v : Word} {read : State → Out (Word × State)}
    (hread : read (s.underway len 0 s.flags) = .next (v, s.underway len 0 s.flags)) (h : moveHigh len (.l c) s read = .next t) :
    t.sr.h = false := by
  have hr : s.runs len false := runs_of_frameRefusal (instruction_inv h).1
  rw [moveHigh_local hr hread] at h
  cases h
  rw [State.writeLocal_sr, State.after, State.settle_sr_h]; rfl

/-- Settles O22: with H = 0 the shape of a result that may branch, with H = 1 a move into a local register. -/
theorem moveResults : Obligations.MoveResults := by
  intro rd rs ld ls imm s
  refine ⟨fun hh => ⟨fun h => ?mov, fun h => ?movi⟩, fun hh => ?high⟩
  case mov =>
    rw [exec_mov, execMov, if_neg (by simp [hh])]
    exact computeOrBranch_answersBranch ⟨Bool.and_false _, h.2⟩ (State.begin_readReg ..)
      (by rw [State.begin_readReg, State.begin_freeV, State.begin_flags]; rfl)
  case movi =>
    rw [exec_movi, execMovi, if_neg (by simp [hh])]
    exact computeOrBranch_answersBranch ⟨Bool.and_false _, h.2⟩ rfl (by rw [State.begin_freeV, State.begin_flags]; rfl)
  case high =>
    obtain ⟨read, hmov, hread⟩ := exec_move_plain (i := .mov (.l ld) (.l ls)) (imm := imm) hh (.inl ⟨rfl, rfl, rfl⟩)
    obtain ⟨read', hmovi, hread'⟩ := exec_move_plain (i := .movi (.l ld) imm) (ls := ls) hh (.inr ⟨rfl, rfl, rfl⟩)
    rw [hmov, hmovi]
    refine ⟨fun hr => moveHigh_local hr hread, fun hr => moveHigh_local hr hread', ?_⟩
    rintro i t (rfl | rfl) h
    · exact moveHigh_local_clears_h hread (hmov ▸ h)
    · exact moveHigh_local_clears_h hread' (hmovi ▸ h)

end Sys2Proof.Machine

/-! ## Arithmetic (42_arithmetic R250 to R270)

The flag functions of the model are first brought into the words of the statements, by exact sums, differences and products; each instruction is
then its shape in Machine/Alu.lean applied to them. -/

namespace Sys2Proof.Machine

/-! ### Carry, borrow and overflow of exact sums and differences (42 R250) -/

theorem outsideSigned_word (x : Int) : outsideSigned 32 x = !decide (-2 ^ 31 ≤ x ∧ x < 2 ^ 31) := by
  rw [outsideSigned_eq, Bool.not_inj_iff, decide_eq_decide]; omega

theorem addOverflow_no_carry (a b : Word) : addOverflow a b false = BitVec.saddOverflow a b := by
  rw [addOverflow, outsideSigned, BitVec.saddOverflow, Bool.or_comm, Bool.eq_iff_iff]
  simp only [Bool.toNat_false, Bool.or_eq_true, decide_eq_true_eq]; omega

theorem subOverflow_no_carry (a b : Word) : subOverflow a b false = BitVec.ssubOverflow a b := by
  rw [subOverflow, outsideSigned, BitVec.ssubOverflow, Bool.or_comm, Bool.eq_iff_iff]
  simp only [Bool.toNat_false, Bool.or_eq_true, decide_eq_true_eq]; omega

theorem bitWord_eq_ofNat (c : Bool) : bitWord c = BitVec.ofNat 32 c.toNat := by cases c <;> rfl

theorem bitWord_eq_ite (c : Bool) : bitWord c = if c then 1 else 0 := by cases c <;> rfl

theorem addFlags_no_carry (a b : Word) : addFlags a b false = sumFlags a b := by
  rw [addFlags, addOverflow_no_carry, bitWord_eq_ofNat, Bool.toNat_false, BitVec.add_zero]; rfl

theorem subFlags_no_carry (a b : Word) : subFlags a b false = differenceFlags a b := by
  rw [subFlags, subOverflow_no_carry, bitWord_eq_ofNat, Bool.toNat_false, BitVec.sub_zero]; rfl

theorem zero_sub_word (b : Word) : 0 - b = -b := BitVec.zero_sub b

/-- A negation borrows but for 0, and overflows at the least number alone (42 R262). -/
theorem differenceFlags_zero (b : Word) : differenceFlags 0 b = { c := b != 0, z := b == 0, n := (-b).msb, v := b == 0x80000000 } := by
  have hc : BitVec.usubOverflow 0 b = (b != 0) := by
    rw [BitVec.usubOverflow, Bool.eq_iff_iff, decide_eq_true_eq, bne_iff_ne]; bv_omega
  have hz : (0 - b == 0) = (b == 0) := by
    rw [Bool.eq_iff_iff, beq_iff_eq, beq_iff_eq]; bv_omega
  have hv : BitVec.ssubOverflow 0 b = (b == 0x80000000) := by
    rw [BitVec.ssubOverflow, Bool.eq_iff_iff, Bool.or_eq_true, decide_eq_true_eq, decide_eq_true_eq, beq_iff_eq,
      ← BitVec.toInt_inj]
    have hlt := BitVec.toInt_lt (x := b)
    have hle := BitVec.le_toInt (x := b)
    have hzero : (0 : Word).toInt = 0 := rfl
    have hleast : (0x80000000 : Word).toInt = -2 ^ 31 := rfl
    omega
  rw [differenceFlags, hc, hz, hv, zero_sub_word]

theorem sub_add_word (a b c : Word) : a - (b + c) = a - b - c := by bv_omega

/-! ### Operands -/

theorem roundToEven_flags (s : State) (a : Word) : roundToEven a s.flags = roundBit s a := bitWord_eq_ite _

theorem State.srDuring_c (s : State) (len : Nat) : (s.srDuring len).c = s.sr.c := by unfold State.srDuring; split <;> rfl

/-- The carry-in, as the number that the statement adds (42 R253, R261). -/
theorem carryIn_begin (s : State) (len : Nat) (rs : Reg) :
    (carryIn (s.begin len) rs).toNat = if s.sr.c && !rs.isSr then 1 else 0 := by
  rw [carryIn, State.begin_sr, State.srDuring_c, Bool.and_comm, Bool.toNat]; cases s.sr.c && !rs.isSr <;> rfl

/-! ### Additions and subtractions -/

/-- Settles O27: each is a result that may branch, with the flags of a sum or a difference without carry. -/
theorem addAndSubtract : Obligations.AddAndSubtract := by
  intro rd rs imm const s
  simp only [exec_add, exec_sub, exec_addi, exec_addiCz, exec_sum, execAdd, execSub, execAddi, execAddiCz, execSum, addFlags_no_carry,
    subFlags_no_carry, eitherGlobal]
  refine ⟨fun h => ⟨?add, ?sub⟩, fun h => ?addi, fun h => ?addiCz, fun h => ?sum⟩
  all_goals
    refine computeOrBranch_answersBranch h ?_ ?_ <;>
      simp only [State.begin_readReg, State.begin_readAddend, State.begin_flags, roundToEven_flags]

section

variable {len : Nat} {g : Bool} {rd : Reg} {s : State} {f f' : State → Word} {a b : Word}

/-- A trapping sum of two operands. -/
theorem addTrapping_answers (h : s.runs len g) (ha : f (s.begin len) = a) (hb : f' (s.begin len) = b) :
    answersTrapping (compute len g rd 0 s fun r => addTrapping (f r) (f' r) r.flags) s len rd (a + b)
      { sumFlags a b with c := s.sr.c } (BitVec.saddOverflow a b) := by
  subst ha hb
  exact compute_answersTrapping h rfl (by rw [addTrapping, addFlags_no_carry, State.begin_flags]; rfl) (addOverflow_no_carry _ _)

/-- A trapping difference of two operands. -/
theorem subTrapping_answers (h : s.runs len g) (ha : f (s.begin len) = a) (hb : f' (s.begin len) = b) :
    answersTrapping (compute len g rd 0 s fun r => subTrapping (f r) (f' r) r.flags) s len rd (a - b)
      { differenceFlags a b with c := s.sr.c } (BitVec.ssubOverflow a b) := by
  subst ha hb
  exact compute_answersTrapping h rfl (by rw [subTrapping, subFlags_no_carry, State.begin_flags]; rfl) (subOverflow_no_carry _ _)

end

/-- Settles O28: each is a trapping sum or difference of its operands as the instruction finds them. -/
theorem trappingArithmetic : Obligations.TrappingArithmetic := by
  intro rd rs imm const s
  simp only [exec_adds, exec_subs, exec_negs, exec_addsi, exec_addsiCz, exec_sums, execAdds, execSubs, execNegs, execAddsi, execAddsiCz, execSums,
    eitherGlobal]
  refine ⟨fun h => ⟨?adds, ?subs, ?negs⟩, fun h => ?addsi, fun h => ?addsiCz, fun h => ?sums⟩
  case adds => exact addTrapping_answers h (State.begin_readReg ..) (State.begin_readAddend ..)
  case subs => exact subTrapping_answers h (State.begin_readReg ..) (State.begin_readAddend ..)
  case negs => exact subTrapping_answers (f := fun _ => 0) h rfl (State.begin_readAddend ..)
  case addsi => exact addTrapping_answers (f' := fun _ => immValue imm) h (State.begin_readReg ..) rfl
  case addsiCz =>
    exact addTrapping_answers (f' := fun r => roundToEven (r.readReg rd) r.flags) h (State.begin_readReg ..)
      (by rw [State.begin_readReg, State.begin_flags, roundToEven_flags])
  case sums => exact addTrapping_answers (f' := fun _ => constValue const) h (State.begin_readAddend ..) rfl

/-- Settles O29: the carry-in enters result and flags as a number; NEG is a difference from 0. -/
theorem carryArithmetic : Obligations.CarryArithmetic := by
  intro rd rs s h
  simp only [exec_addc, exec_subc, exec_neg, execAddc, execSubc, execNeg, eitherGlobal]
  refine ⟨compute_answersResult h rfl ?sum ?sumFlags, compute_answersResult h rfl ?dif ?difFlags, compute_answersResult h rfl ?neg ?negFlags⟩
  case sum => simp only [State.begin_readReg, State.begin_readAddend, bitWord_eq_ofNat, carryIn_begin]
  case dif => simp only [State.begin_readReg, State.begin_readAddend, bitWord_eq_ofNat, carryIn_begin, sub_add_word]
  case neg => simp only [State.begin_readAddend, zero_sub_word]
  case sumFlags =>
    simp only [State.begin_readReg, State.begin_readAddend, State.begin_flags, stickyZero, addFlags, addCarry, addOverflow, outsideSigned_word,
      bitWord_eq_ofNat, carryIn_begin]
    rfl
  case difFlags =>
    simp only [State.begin_readReg, State.begin_readAddend, State.begin_flags, stickyZero, subFlags, subBorrow, subOverflow, outsideSigned_word,
      bitWord_eq_ofNat, carryIn_begin]
    rfl
  case negFlags => simp only [State.begin_readAddend, subFlags_no_carry, differenceFlags_zero]

/-! ### Multiplications (42 R264 to R266) -/

theorem denotesPcSr_eq (rd rs : Reg) : denotesPcSr rd rs = !(rd.notPcSr && rs.notPcSr) := by
  simp only [denotesPcSr, Reg.notPcSr, Bool.not_and, Bool.not_not, Bool.or_assoc]

theorem denotesPcSr_of_general {rd rs : Reg} (hd : rd.notPcSr = true) (hs : rs.notPcSr = true) : denotesPcSr rd rs = false := by
  rw [denotesPcSr_eq, hd, hs]; rfl

theorem denotesPcSr_of_special {rd rs : Reg} (h : rd.notPcSr = false ∨ rs.notPcSr = false) : denotesPcSr rd rs = true := by
  rw [denotesPcSr_eq, Bool.not_eq_true', Bool.and_eq_false_iff]; exact h

theorem mul_eq_ofNat (a b : Word) : a * b = BitVec.ofNat 32 (a.toNat * b.toNat) := by
  rw [BitVec.ofNat_mul, BitVec.ofNat_toNat, BitVec.ofNat_toNat, BitVec.setWidth_eq, BitVec.setWidth_eq]

theorem signExtend_mul_eq_ofInt (a b : Word) : a.signExtend 64 * b.signExtend 64 = BitVec.ofInt 64 (a.toInt * b.toInt) := by
  rw [BitVec.ofInt_mul]; rfl

theorem setWidth_mul_eq_ofNat (a b : Word) : a.setWidth 64 * b.setWidth 64 = BitVec.ofNat 64 (a.toNat * b.toNat) := by
  rw [BitVec.ofNat_mul, BitVec.ofNat_toNat, BitVec.ofNat_toNat]

theorem anyFlags_begin (s : State) (len : Nat) : (s.begin len).anyFlags = s.anyFlagsOf := by
  simp only [State.anyFlags, State.begin_freeC, State.begin_freeZ, State.begin_freeN, State.begin_freeV]; rfl

theorem productPair_begin (s : State) (len : Nat) (p : BitVec 64) : productPair p (s.begin len) =
    { hi := p.extractLsb' 32 32, lo := p.extractLsb' 0 32, flags := { c := s.anyC, z := p == 0, n := p.msb, v := s.anyV } } := by
  simp only [productPair, State.begin_freeC, State.begin_freeV]

/-- Settles O30: the product of the operands as the instruction finds them, or any value where one of them denotes the PC or the SR. -/
theorem multiply : Obligations.Multiply := by
  intro rd rs s h
  simp only [exec_mul, exec_muls, exec_mulu, execMul, execMuls, execMulu]
  refine ⟨fun hd hs => ?general, fun hx => ?special⟩
  case general =>
    simp only [denotesPcSr_of_general hd hs, Bool.false_eq_true, if_false, signExtend_mul_eq_ofInt, setWidth_mul_eq_ofNat, mul_eq_ofNat]
    refine ⟨compute_answersResult h rfl (by simp only [State.begin_readReg])
        (by simp only [State.begin_readReg, State.begin_freeC, State.begin_freeV]),
      computePair_answersPair h fun rdf _ => ?_, computePair_answersPair h fun rdf _ => ?_⟩
    all_goals simp only [productPair_begin, State.begin_readReg]
  case special =>
    rw [if_pos (denotesPcSr_of_special hx), if_pos (denotesPcSr_of_special hx), if_pos (denotesPcSr_of_special hx), ← anyFlags_begin s 1]
    exact ⟨anySingle_eq h, anyPair_answers h, anyPair_answers h⟩

/-! ### Divisions (42 R267, R268) -/

/-- A double-word instruction that may raise an error, where Rd is a general register with a follower. -/
theorem computePair_general {k : Nat} {g : Bool} {rd : Reg} {rdf : Slot} {s : State} {f : State → Slot → AluPair} {p : AluPair}
    (h : s.runs 1 g) (hr : rd.notPcSr = true) (hx : followSlot rd = some rdf) (hf : f (s.begin 1) rdf = p) :
    computePair g rd k s f =
      if p.error then s.raises (((s.underway 1 k p.flags).put rd p.hi).putSlot p.lo rdf)
      else .next (((s.after 1 k p.flags).put rd p.hi).putSlot p.lo rdf) := by
  subst hf
  have hs : rdf ≠ .sr := followSlot_ne_sr hr hx
  unfold computePair
  rw [instruction_eq (frameRefusal_runs h), underway_drawn, Nat.zero_add]
  simp only [withFollower, State.writePair, hx, writeResult_general hr, andThen_done, andThen_next, Bool.false_or, underway_setFlags, writeSlot_eq]
  cases (f (s.begin 1) rdf).error
  · rw [finish_ok, State.settle_putSlot _ _ _ hs, State.settle_put]; rfl
  · exact finish_error ..

theorem computePair_no_follower {k : Nat} {g : Bool} {rd : Reg} {s : State} {f : State → Slot → AluPair} (h : s.runs 1 g)
    (hx : followSlot rd = none) : computePair g rd k s f = .refused .reservedRegister := by
  unfold computePair; rw [instruction_eq (frameRefusal_runs h), withFollower, hx]; rfl

theorem divisionAny_begin (s : State) (len : Nat) : divisionAny (s.begin len) =
    { hi := s.draw 1, lo := s.draw 2, flags := { c := s.sr.c, z := s.anyZ, n := s.anyN, v := s.anyV } } := by
  simp only [divisionAny, State.begin_freshAt, State.begin_sr, State.srDuring_c, State.begin_freeZ, State.begin_freeN, State.begin_freeV]

theorem divisionTrap_begin (s : State) (len : Nat) : divisionTrap (s.begin len) =
    { hi := s.draw 1, lo := s.draw 2, flags := { c := s.sr.c, z := s.anyZ, n := s.anyN, v := true }, error := true } := by
  simp only [divisionTrap, State.begin_freshAt, State.begin_sr, State.srDuring_c, State.begin_freeZ, State.begin_freeN]

theorem divisionResult_begin (rem quo : Word) (s : State) (len : Nat) : divisionResult rem quo (s.begin len) =
    { hi := rem, lo := quo, flags := { c := s.sr.c, z := quo == 0, n := quo.msb, v := false } } := by
  simp only [divisionResult, State.begin_sr, State.srDuring_c]

theorem divisorOverlaps_iff (rd rs : Reg) (rdf : Slot) : divisorOverlaps rd rs rdf = true ↔ regSlot rs = regSlot rd ∨ regSlot rs = rdf := by
  rw [divisorOverlaps, Bool.or_eq_true, beq_iff_eq, beq_iff_eq]

theorem divsFails_iff (dividend : BitVec 64) (divisor : Word) : divsFails dividend divisor = true ↔
    divisor = 0 ∨ dividend.msb = true ∨ dividend.toInt.tdiv divisor.toInt < -2 ^ 31 ∨ 2 ^ 31 ≤ dividend.toInt.tdiv divisor.toInt := by
  rw [divsFails, outsideSigned_word]
  simp only [Bool.or_eq_true, beq_iff_eq, Bool.not_eq_true', decide_eq_false_iff_not, or_assoc]
  refine or_congr_right (or_congr_right ?_)
  omega

/-- The quotient is out of range where the divisor is no more than the high-order word of the dividend. -/
theorem divuFails_iff (hi lo divisor : Word) : divuFails (hi ++ lo) divisor = true ↔ divisor = 0 ∨ divisor.toNat ≤ hi.toNat := by
  rw [divuFails, Bool.or_eq_true, beq_iff_eq, decide_eq_true_eq]
  by_cases hzero : divisor = 0
  · simp only [hzero, true_or]
  rw [or_iff_right hzero, or_iff_right hzero]
  have hpos : 0 < divisor.toNat := by bv_omega
  have hlo : lo.toNat < 2 ^ 32 := lo.isLt
  rw [BitVec.toNat_append, ← Nat.shiftLeft_add_eq_or_of_lt hlo, Nat.shiftLeft_eq, gt_iff_lt, Nat.lt_iff_add_one_le,
    Nat.le_div_iff_mul_le hpos]
  omega

/-- What the statement claims of a division whose Rd is a general register followed by `rdf`. -/
def answersDivision (x : Out State) (s : State) (rd rs : Reg) (rdf : Slot) (fails : Prop) (rem quo : Word) : Prop :=
  let overlap := regSlot rs = regSlot rd ∨ regSlot rs = rdf
  let any (v : Bool) : Flags := { c := s.sr.c, z := s.anyZ, n := s.anyN, v := v }
  (fails → overlap → x = s.raises (((s.underway 1 3 (any s.anyV)).put rd (s.draw 1)).putSlot (s.draw 2) rdf)) ∧
  (fails → ¬overlap → x = s.raises (((s.underway 1 3 (any true)).put rd (s.draw 1)).putSlot (s.draw 2) rdf)) ∧
  (¬fails → overlap → x = .next (((s.after 1 3 (any s.anyV)).put rd (s.draw 1)).putSlot (s.draw 2) rdf)) ∧
  (¬fails → ¬overlap → x = .next
    (((s.after 1 3 { c := s.sr.c, z := quo == 0, n := quo.msb, v := false }).put rd rem).putSlot quo rdf))

/-- A division, by whether it fails and whether the divisor lies in the dividend. -/
theorem division_answers {rd rs : Reg} {rdf : Slot} {s : State} {g fails : Bool} {failing : Prop} {rem quo : Word}
    {f : State → Slot → AluPair} (h : s.runs 1 g) (hd : rd.notPcSr = true) (hx : followSlot rd = some rdf) (hi : fails = true ↔ failing)
    (hf : f (s.begin 1) rdf = division (divisorOverlaps rd rs rdf) fails rem quo (s.begin 1)) :
    answersDivision (computePair g rd 3 s f) s rd rs rdf failing rem quo := by
  have no_overlap (ho : ¬(regSlot rs = regSlot rd ∨ regSlot rs = rdf)) : divisorOverlaps rd rs rdf = false := by
    rwa [← divisorOverlaps_iff, Bool.not_eq_true] at ho
  have no_failure (hn : ¬failing) : fails = false := by rwa [← hi, Bool.not_eq_true] at hn
  rw [computePair_general h hd hx hf]
  refine ⟨fun hy ho => ?_, fun hy ho => ?_, fun hn ho => ?_, fun hn ho => ?_⟩
  · rw [hi.mpr hy, (divisorOverlaps_iff ..).mpr ho, division_overlaps, divisionAny_begin]; rfl
  · rw [hi.mpr hy, no_overlap ho, division_fails, divisionTrap_begin]; rfl
  · rw [no_failure hn, (divisorOverlaps_iff ..).mpr ho, division_overlaps, divisionAny_begin]; rfl
  · rw [no_failure hn, no_overlap ho, division_completes, divisionResult_begin]; rfl

/-- Settles O31: any value where the PC or the SR is denoted, otherwise a division of the operands as the instruction finds them. -/
theorem divide : Obligations.Divide := by
  intro rd rs s h
  simp only [exec_divs, exec_divu, execDivs, execDivu]
  refine ⟨fun hx => ?special, fun hd hs hx => ?noFollower, fun hd hs rdf hx => ?general⟩
  case special =>
    have hf : (divisionAny (s.begin 1)).flags = { c := s.sr.c, z := s.anyZ, n := s.anyN, v := s.anyV } := by rw [divisionAny_begin]
    rw [if_pos (denotesPcSr_of_special hx), if_pos (denotesPcSr_of_special hx), ← hf]
    exact ⟨anyPair_answers h, anyPair_answers h⟩
  all_goals rw [denotesPcSr_of_general hd hs, if_neg Bool.false_ne_true, if_neg Bool.false_ne_true]
  case noFollower => exact ⟨computePair_no_follower h hx, computePair_no_follower h hx⟩
  case general =>
    exact ⟨division_answers h hd hx (divsFails_iff ..) (by simp only [State.begin_readReg, State.begin_readSlot]),
      division_answers h hd hx (divuFails_iff (s.operand 1 rd) (s.slotDuring 1 rdf) (s.operand 1 rs))
        (by simp only [State.begin_readReg, State.begin_readSlot])⟩

end Sys2Proof.Machine

/-! ## Shifts and rotate (43_shift_rotate R290 to R305)

V of a shift left is an exact product out of range in the model and a shift back that does not restore the operand in the statements: the two
agree for every width and every count below it. Each instruction is then a shift of one register or of a local pair, by a count that is either in
the instruction or read from Ls. -/

namespace Sys2Proof.Machine

/-! ### Overflow of a shift left (43 R304) -/

section

variable {w k : Nat}

theorem natCast_two_pow (k : Nat) : ((2 ^ k : Nat) : Int) = 2 ^ k := Int.natCast_pow 2 k

theorem toInt_shiftLeft_eq_bmod (x : BitVec w) (k : Nat) : (x <<< k).toInt = (x.toInt * 2 ^ k).bmod (2 ^ w) := by
  rw [BitVec.toInt_shiftLeft, Nat.shiftLeft_eq, Int.natCast_mul, natCast_two_pow, BitVec.toInt_eq_toNat_bmod, Int.bmod_mul_bmod]

theorem two_pow_dvd_toInt_shiftLeft (hk : k ≤ w) (x : BitVec w) : (2 : Int) ^ k ∣ (x <<< k).toInt := by
  have hmodulus : (2 : Int) ^ k ∣ ((2 ^ w : Nat) : Int) := by
    rw [← natCast_two_pow]
    exact Int.natCast_dvd_natCast.mpr (Nat.pow_dvd_pow 2 hk)
  rw [toInt_shiftLeft_eq_bmod, Int.bmod_eq_self_sub_mul_bdiv]
  exact Int.dvd_sub (Int.dvd_mul_left ..) (Int.dvd_mul_of_dvd_left hmodulus)

/-- Shifting back restores the operand just where the shift left was an exact multiplication. -/
theorem sshiftRight_shiftLeft_eq_iff (hk : k ≤ w) (x : BitVec w) :
    (x <<< k).sshiftRight k = x ↔ (x <<< k).toInt = x.toInt * 2 ^ k := by
  rw [← BitVec.toInt_inj, BitVec.toInt_sshiftRight, Int.shiftRight_eq_div_pow, natCast_two_pow]
  exact Int.ediv_eq_iff_eq_mul_left (Int.pow_ne_zero (by decide)) (two_pow_dvd_toInt_shiftLeft hk x)

/-- The multiplication is exact just where the product is in the signed range. -/
theorem toInt_shiftLeft_eq_iff (hw : 0 < w) (x : BitVec w) (k : Nat) :
    (x <<< k).toInt = x.toInt * 2 ^ k ↔ -(2 ^ (w - 1)) ≤ x.toInt * 2 ^ k ∧ x.toInt * 2 ^ k ≤ 2 ^ (w - 1) - 1 := by
  refine ⟨fun h => ?inRange, fun ⟨hle, hlt⟩ => ?exact⟩
  case inRange =>
    rw [← h]
    exact ⟨BitVec.le_toInt _, Int.le_sub_one_of_lt BitVec.toInt_lt⟩
  case exact =>
    have hmodulus : ((2 ^ w : Nat) : Int) = 2 * 2 ^ (w - 1) := by
      rw [← natCast_two_pow, ← Nat.two_pow_pred_mul_two hw, Int.natCast_mul, Int.mul_comm]; rfl
    rw [toInt_shiftLeft_eq_bmod]
    exact Int.bmod_eq_of_le_mul_two (by omega) (by omega)

/-- V, in the words of the statements. -/
theorem shiftLeftOverflow_eq (hk : k < w) (x : BitVec w) : shiftLeftOverflow x k = ((x <<< k).sshiftRight k != x) := by
  have hfits : (x <<< k).sshiftRight k = x ↔ -(2 ^ (w - 1)) ≤ x.toInt * 2 ^ k ∧ x.toInt * 2 ^ k ≤ 2 ^ (w - 1) - 1 :=
    (sshiftRight_shiftLeft_eq_iff (Nat.le_of_lt hk) x).trans (toInt_shiftLeft_eq_iff (Nat.zero_lt_of_lt hk) x k)
  rw [shiftLeftOverflow, outsideSigned_eq, bne, Bool.not_inj_iff, Bool.eq_iff_iff, decide_eq_true_eq, beq_iff_eq, hfits]

/-! ### Flags and results in the words of the statements -/

theorem shiftLeftFlags_anyC (hk : k < w) (s : State) (x : BitVec w) : shiftLeftFlags x k s.anyC = leftFlags s x k := by
  rw [shiftLeftFlags, leftFlags, shiftLeftOverflow_eq hk]

/-- C of a shift right is 0 for a count of 0 (D16). -/
theorem shiftRightFlags_flags (s : State) (x r : BitVec w) (k : Nat) : shiftRightFlags x r k s.flags = rightFlags s x r k := by
  have hcarry : shiftRightCarry x k = (k != 0 && x.getLsbD (k - 1)) := by
    cases k with
    | zero => rfl
    | succ k => exact (Bool.true_and _).symm
  rw [shiftRightFlags, rightFlags, hcarry]; rfl

end

theorem rotateLeftWord_eq {k : Nat} (hk : k < 32) (x : Word) : rotateLeftWord x k = x.rotateLeft k := by
  rw [rotateLeftWord, BitVec.rotateLeft_def, Nat.mod_eq_of_lt hk]
  split
  next h => rw [h, BitVec.shiftLeft_zero, BitVec.ushiftRight_eq_zero (Nat.le_refl 32), BitVec.or_zero]
  next => rfl

/-! ### The count (43 R290) -/

/-- The count in Ls, as the instruction finds it. -/
def State.localCount (s : State) (ls : BitVec 4) : Nat := ((s.readLocal ls.toNat).extractLsb' 0 5).toNat

theorem State.localCount_lt (s : State) (ls : BitVec 4) : s.localCount ls < 32 := BitVec.isLt _

theorem State.begin_shiftCount (s : State) (len : Nat) (ls : BitVec 4) : (s.begin len).shiftCount ls = s.localCount ls := by
  rw [State.shiftCount, State.begin_readReg, State.localCount, BitVec.extractLsb'_toNat]; rfl

/-! ### Shifts of one register -/

section

variable {g : Bool} {rd : Reg} {s : State} {operand : State → Word} {count : State → Nat} {x : Word} {k : Nat}

theorem shiftLeftWord_answers (h : s.runs 1 g) (hx : operand (s.begin 1) = x) (hc : count (s.begin 1) = k) (hk : k < 32) :
    answersResult (compute 1 g rd 1 s fun r => shiftLeftWord (operand r) (count r) r) s 1 1 rd (x <<< k) (leftFlags s x k) := by
  subst hx hc
  exact compute_answersResult h rfl rfl (by rw [shiftLeftWord, State.begin_freeC, shiftLeftFlags_anyC hk])

/-- Either shift right, `shift`. -/
theorem shiftRightWord_answers (shift : Word → Nat → Word) (h : s.runs 1 g) (hx : operand (s.begin 1) = x) (hc : count (s.begin 1) = k) :
    answersResult (compute 1 g rd 0 s fun r => shiftRightWord (operand r) (shift (operand r) (count r)) (count r) r) s 1 0 rd (shift x k)
      (rightFlags s x (shift x k) k) := by
  subst hx hc
  exact compute_answersResult h rfl rfl (by rw [shiftRightWord, State.begin_flags, shiftRightFlags_flags])

end

/-- Settles O32: the operand and the count are read as the instruction finds them, the count below 32. -/
theorem singleShifts : Obligations.SingleShifts := by
  intro rd n ld ls s
  simp only [exec_shli, exec_sari, exec_shri, exec_shl, exec_sar, exec_shr, exec_rol]
  refine ⟨fun h => ?immediate, fun h => ?register⟩
  case immediate =>
    have hx : (s.begin 1).readReg rd = s.operand 1 rd := State.begin_readReg ..
    exact ⟨shiftLeftWord_answers (count := fun _ => n.toNat) h hx rfl n.isLt,
      shiftRightWord_answers (count := fun _ => n.toNat) BitVec.sshiftRight h hx rfl,
      shiftRightWord_answers (count := fun _ => n.toNat) (· >>> ·) h hx rfl⟩
  case register =>
    have hx : (s.begin 1).readReg (.l ld) = s.readLocal ld.toNat := State.begin_readReg ..
    have hc : (s.begin 1).shiftCount ls = s.localCount ls := State.begin_shiftCount ..
    have hk : s.localCount ls < 32 := s.localCount_lt ls
    have hrol : rotateLeftWord ((s.begin 1).readReg (.l ld)) ((s.begin 1).shiftCount ls) =
        (s.readLocal ld.toNat).rotateLeft (s.localCount ls) := by rw [hx, hc, rotateLeftWord_eq hk]
    exact ⟨shiftLeftWord_answers h hx hc hk, shiftRightWord_answers BitVec.sshiftRight h hx hc, shiftRightWord_answers (· >>> ·) h hx hc,
      compute_answersResult h rfl hrol (by simp only [hrol, State.begin_freeC, State.begin_freeV]; rfl)⟩

/-! ### Shifts of a local pair -/

section

variable {ld : BitVec 4} {s : State} {count : State → Nat} {k : Nat}

theorem shiftPairLeft_answers (h : s.runs 1 false) (hc : count (s.begin 1) = k) (hk : k < 32) :
    answersLocalPair (shiftPair ld 1 s (fun x r => x <<< count r) fun x r => shiftLeftFlags x (count r) r.freeC) s 1 ld (s.localPair ld <<< k)
      (leftFlags s (s.localPair ld) k) := by
  subst hc
  exact shiftPair_answers h rfl (by rw [State.begin_freeC, shiftLeftFlags_anyC (by omega)])

/-- Either shift right, `shift`. -/
theorem shiftPairRight_answers (shift : BitVec 64 → Nat → BitVec 64) (h : s.runs 1 false) (hc : count (s.begin 1) = k) :
    answersLocalPair (shiftPair ld 0 s (fun x r => shift x (count r)) fun x r => shiftRightFlags x (shift x (count r)) (count r) r.flags) s 0 ld
      (shift (s.localPair ld) k) (rightFlags s (s.localPair ld) (shift (s.localPair ld) k) k) := by
  subst hc
  exact shiftPair_answers h rfl (by rw [State.begin_flags, shiftRightFlags_flags])

/-- Any value in the pair, the flags as given (93 U35). -/
theorem anyShift_answers {flags : State → Flags} {f : Flags} (h : s.runs 1 false) (hf : flags (s.begin 1) = f) :
    answersLocalPair (anyShift ld s flags) s 3 ld (s.draw 1 ++ s.draw 2) f :=
  shiftPair_answers h (by rw [State.begin_freshAt, State.begin_freshAt]) hf

end

theorem countOverlaps_iff (ld ls : BitVec 4) : countOverlaps ld ls = true ↔ ls = ld ∨ ls.toNat = ld.toNat + 1 := by
  rw [countOverlaps, Bool.or_eq_true, beq_iff_eq, decide_eq_true_eq]

/-- Settles O33: by whether Ls is one of the pair; if not, the pair is shifted as the instruction finds it. -/
theorem doubleShifts : Obligations.DoubleShifts := by
  intro ld ls n s h
  simp only [exec_shldi, exec_sardi, exec_shrdi, exec_shld, exec_sard, exec_shrd, execShld, execSard, execShrd]
  refine ⟨?immediate, fun hld hldf => ?register, fun ho => ?overlap⟩
  case immediate =>
    exact ⟨shiftPairLeft_answers (count := fun _ => n.toNat) h rfl n.isLt,
      shiftPairRight_answers (count := fun _ => n.toNat) BitVec.sshiftRight h rfl,
      shiftPairRight_answers (count := fun _ => n.toNat) (· >>> ·) h rfl⟩
  case register =>
    have hno : ¬countOverlaps ld ls = true := by rw [countOverlaps_iff]; exact not_or.mpr ⟨hld, hldf⟩
    have hc : (s.begin 1).shiftCount ls = s.localCount ls := State.begin_shiftCount ..
    rw [if_neg hno, if_neg hno, if_neg hno]
    exact ⟨shiftPairLeft_answers h hc (s.localCount_lt ls), shiftPairRight_answers BitVec.sshiftRight h hc,
      shiftPairRight_answers (· >>> ·) h hc⟩
  case overlap =>
    have hyes : countOverlaps ld ls = true := (countOverlaps_iff ld ls).mpr ho
    have hright : ({ c := (s.begin 1).freeC, z := (s.begin 1).freeZ, n := (s.begin 1).freeN, v := (s.begin 1).sr.v } : Flags) =
        { c := s.anyC, z := s.anyZ, n := s.anyN, v := s.sr.v } := by
      rw [State.begin_freeC, State.begin_freeZ, State.begin_freeN, State.begin_sr_v]
    rw [if_pos hyes, if_pos hyes, if_pos hyes]
    exact ⟨anyShift_answers h (anyFlags_begin s 1), anyShift_answers h hright, anyShift_answers h hright⟩

end Sys2Proof.Machine

/-! ## Index moves, checks, compares and sets (44_index_check_compare_set R310 to R329, R630 to R656)

An index move and a SETxx are read off the tables of the families, each by one lemma over the constructors; the others are one instruction each. -/

namespace Sys2Proof.Machine

/-! ### Index moves (44 R310 to R318) -/

theorem exec_indexForm {i : Instr} {k : Nat} {checked : Bool} {rd rs : Reg} {lim : Lim}
    (hi : i.indexForm = some (k, checked, rd, rs, lim)) (s : State) :
    exec i s = if checked then indexMove k rd rs lim s else indexScale k rd rs lim s := by
  cases i with
  | xm1 | xm2 | xm4 | xm8 | xx1 | xx2 | xx4 | xx8 => cases hi; rfl
  | _ => cases hi

theorem shiftLeft_eq_ofNat (x : Word) (k : Nat) : x <<< k = BitVec.ofNat 32 (x.toNat * 2 ^ k) := by
  apply BitVec.eq_of_toNat_eq
  rw [BitVec.toNat_shiftLeft, BitVec.toNat_ofNat, Nat.shiftLeft_eq]

/-- The bound is an unsigned one (R310). -/
theorem aboveBound_eq (v lim : Word) (isPc : Bool) :
    aboveBound v lim isPc = if isPc then decide (lim.toNat ≤ v.toNat) else decide (lim.toNat < v.toNat) := rfl

/-- Settles O34: the result is the same with and without the test of the bound, which is made on the source. -/
theorem indexMoves : Obligations.IndexMoves := by
  intro i k checked rd rs lim s hi h v
  have hv : (s.begin (limLength lim)).readReg rs <<< k = BitVec.ofNat 32 (v * 2 ^ k) := by
    rw [State.begin_readReg, shiftLeft_eq_ofNat]
  rw [exec_indexForm hi]
  cases checked with
  | false =>
    rw [if_neg Bool.false_ne_true, Bool.false_and]
    exact compute_answersTrapping h hv (State.begin_flags ..) rfl
  | true =>
    rw [if_pos rfl, Bool.true_and]
    exact compute_answersTrapping h hv (State.begin_flags ..) (by rw [State.begin_readReg, aboveBound_eq])

/-! ### Checks, NOP and FETCH (44 R319 to R321, 45 R390) -/

/-- A check whose condition is `p` of the operands as the instruction finds them. -/
theorem check_eq_ite {g : Bool} {s : State} {f : State → Bool} {p : Prop} [Decidable p] (h : s.runs 1 g) (hf : f (s.begin 1) = true ↔ p) :
    check g s f = if p then s.raises (s.underway 1 0 s.flags) else .next (s.after 1 0 s.flags) := by
  rw [check_eq h]; exact ite_congr (propext hf) (fun _ => rfl) fun _ => rfl

theorem execFetch_completes {s : State} (hh : s.sr.h = false) (hd : s.delay = .none) (k : BitVec 4) :
    execFetch k s = .next (s.underway 1 0 s.flags) := by
  have hb : s.branches true := ⟨by rw [hh]; rfl, hd⟩
  rw [execFetch, instruction_eq (frameRefusal_branches hb), finish_done, hd]; rfl

theorem execFetch_slot {s : State} (hh : s.sr.h = false) (hd : s.delay ≠ .none) (k : BitVec 4) :
    execFetch k s = .refused .branchInDelaySlot :=
  instruction_refused (frameRefusal_slot (by rw [hh]; rfl) hd)

/-- Settles O35: a check by its condition, NOP as the check that never fails, FETCH by where it stands. -/
theorem checksNopAndFetch : Obligations.ChecksNopAndFetch := by
  intro rd rs k s idle
  rw [exec_chk, exec_chkz, exec_nop, exec_fetch]
  refine ⟨⟨rfl, rfl, rfl⟩, fun h => ?chk, fun h => ?chkz, fun h => ?nop, fun hh hd => execFetch_completes hh hd k,
    fun hh hd => execFetch_slot hh hd k⟩
  case chk =>
    refine check_eq_ite h ?_
    simp only [State.begin_readReg]
    cases rs.isPc <;> simp only [if_true, Bool.false_eq_true, if_false, decide_eq_true_eq, BitVec.le_def, BitVec.lt_def]
  case chkz => exact check_eq_ite h (by rw [State.begin_readReg, beq_iff_eq])
  case nop => exact check_eq h

/-! ### Compares (44 R322 to R326) -/

theorem compareFlags_eq (a b : Word) :
    compareFlags a b = { c := a.ult b, z := a == b, n := a.slt b, v := BitVec.ssubOverflow a b } := by
  rw [compareFlags, subOverflow_no_carry]; rfl

theorem anyByteZero_eq (a : Word) : anyByteZero a = decide (∃ j : Fin 4, a.extractLsb' (8 * j.val) 8 = 0) := by
  rw [anyByteZero, Bool.eq_iff_iff, decide_eq_true_eq]
  simp only [Bool.or_eq_true, beq_iff_eq]
  constructor
  · rintro (((h | h) | h) | h)
    · exact ⟨3, h⟩
    · exact ⟨2, h⟩
    · exact ⟨1, h⟩
    · exact ⟨0, h⟩
  · rintro ⟨j, h⟩
    match j, h with
    | 0, h => exact .inr h
    | 1, h => exact .inl (.inr h)
    | 2, h => exact .inl (.inl (.inr h))
    | 3, h => exact .inl (.inl (.inl h))

/-- Settles O36: each is `computeFlags` of its operands as the instruction finds them. -/
theorem compares : Obligations.Compares := by
  intro rd rs imm s less zero
  rw [exec_cmp, exec_cmpb, exec_cmpi, exec_cmpbi, exec_cmpbiAnybz]
  refine ⟨fun h => ⟨computeFlags_eq h ?cmp, computeFlags_eq h ?cmpb⟩, fun h => ⟨computeFlags_eq h ?cmpi, computeFlags_eq h ?cmpbi⟩,
    fun h => computeFlags_eq h ?anybz⟩
  case cmp => rw [State.begin_readReg, State.begin_readAddend, compareFlags_eq]
  case cmpi => rw [State.begin_readReg, compareFlags_eq]
  case cmpb => rw [State.begin_readReg, State.begin_readReg, State.begin_flags]; rfl
  case cmpbi => rw [State.begin_readReg, State.begin_flags]; rfl
  case anybz => rw [State.begin_readReg, State.begin_flags, anyByteZero_eq]; rfl

/-! ### TESTLZ and SETADR (44 R327, R328) -/

theorem leadingZeros_le (v : Word) (k : Nat) : leadingZeros v k ≤ k := by
  induction k with
  | zero => exact Nat.le_refl 0
  | succ k ih => rw [leadingZeros]; split <;> omega

/-- The bits that are counted are zero. -/
theorem getLsbD_of_leadingZeros (v : Word) {k j : Nat} (hj : k - leadingZeros v k ≤ j) (hk : j < k) : v.getLsbD j = false := by
  induction k with
  | zero => omega
  | succ k ih =>
    rw [leadingZeros] at hj
    split at hj
    next => omega
    next hbit =>
      rcases Nat.lt_succ_iff_lt_or_eq.mp hk with hlt | rfl
      · exact ih (by omega) hlt
      · exact Bool.eq_false_iff.mpr hbit

/-- The bit that ends the count is one. -/
theorem getLsbD_leadingZeros (v : Word) {k : Nat} (h : leadingZeros v k < k) : v.getLsbD (k - 1 - leadingZeros v k) = true := by
  induction k with
  | zero => omega
  | succ k ih =>
    rw [leadingZeros] at h ⊢
    split
    next hbit => exact hbit
    next hbit =>
      rw [if_neg hbit] at h
      rw [show k + 1 - 1 - (leadingZeros v k + 1) = k - 1 - leadingZeros v k by omega]
      exact ih (by omega)

theorem execTestlz_eq {s : State} (h : s.runs 1 false) (ld ls : BitVec 4) : execTestlz ld ls s =
    .next ((s.after 1 0 s.flags).writeLocal ld.toNat (BitVec.ofNat 32 (leadingZeros (s.readLocal ls.toNat) 32))) := by
  have hv : (s.begin 1).readReg (.l ls) = s.readLocal ls.toNat := State.begin_readReg ..
  obtain ⟨hgeneral, -⟩ : answersResult (execTestlz ld ls s) s 1 0 (.l ld) (BitVec.ofNat 32 (leadingZeros (s.readLocal ls.toNat) 32)) s.flags :=
    compute_answersResult h rfl (by rw [hv]) (State.begin_flags ..)
  exact hgeneral rfl

/-- The carry into bit 9 in the words of the statement (R328). -/
theorem stackAddress_eq (sp : Word) (fp : BitVec 7) :
    stackAddress sp fp = (sp.extractLsb' 9 23 + if sp.getLsbD 8 = true ∧ fp.getLsbD 6 = false then 1 else 0) ++ fp ++ 0#2 := by
  rw [stackAddress]
  cases sp.getLsbD 8 <;> cases fp.getLsbD 6 <;> rfl

/-- Settles O37: `leadingZeros` is the number of leading zeros, `stackAddress` the expanded FP. -/
theorem leadingZerosAndStackAddress : Obligations.LeadingZerosAndStackAddress := by
  intro ld ls rd s
  rw [exec_testlz, exec_setadr]
  refine ⟨⟨rfl, rfl⟩, fun h => ?testlz, fun h => ?setadr⟩
  case testlz =>
    exact ⟨leadingZeros (s.readLocal ls.toNat) 32, leadingZeros_le .., fun j hj hk => getLsbD_of_leadingZeros _ hj hk,
      fun hn => getLsbD_leadingZeros _ hn, execTestlz_eq h ld ls⟩
  case setadr =>
    exact compute_answersResult h rfl (by rw [State.begin_sp, State.begin_sr_fp, stackAddress_eq]) (State.begin_flags ..)

/-! ### SETxx (44 R329, R630 to R656) -/

theorem exec_setForm {i : Instr} {cond : Cond} {yes : Word} {rd : Reg} (hi : i.setForm = some (cond, yes, rd)) (s : State) :
    exec i s = setIf cond yes rd s := by
  cases i with
  | set1 | set0 | setle | setgt | setlt | setge | setse | setht | setst | sethe | sete | setne | setv | setnv
  | set1M | setleM | setgtM | setltM | setgeM | setseM | sethtM | setstM | setheM | seteM | setneM | setvM | setnvM => cases hi; rfl
  | _ => cases hi

/-- Settles O38: the condition is tested on the flags as the instruction finds them. -/
theorem setConditional : Obligations.SetConditional := by
  intro i cond yes rd s hi h
  rw [exec_setForm hi]
  exact compute_answersResult h rfl (by rw [State.begin_flags]) (State.begin_flags ..)

/-! ### Words of the spec's examples (95 section 2) -/

/-- Settles O3: the decoder evaluated on each word. -/
theorem specWordsDecode : Obligations.SpecWordsDecode := by
  unfold Obligations.SpecWordsDecode
  decide +kernel

end Sys2Proof.Machine

/-! ## Control flow (45_branch_call_trap_frame_return R350 to R382)

Branches, Delayed Branches and traps are read off the tables of the families, each by one lemma over the constructors; what each does is that of
`branchTo`, `openFrame` and `restore` on the state underway. -/

namespace Sys2Proof.Machine

/-! ### Conditions (45 R351) -/

/-- Settles O6: the four flags by their values. -/
theorem conditionsReadTheFlags : Obligations.ConditionsReadTheFlags := by
  unfold Obligations.ConditionsReadTheFlags
  decide

/-! ### The state underway where no delay instruction is outstanding -/

theorem State.nextPc_none {s : State} (hd : s.delay = .none) (len : Nat) : s.nextPc len = s.pc + BitVec.ofNat 32 (2 * len) := by
  rw [State.nextPc, hd]

@[simp] theorem underway_bus (s : State) (len k : Nat) (f : Flags) : (s.underway len k f).bus = s.bus := rfl

theorem State.srDuring_none {s : State} (hd : s.delay = .none) (len : Nat) :
    s.srDuring len = { s.sr with p := true, ilc := BitVec.ofNat 2 len } := by
  rw [State.srDuring, hd]

/-! ### Branch instructions (45 R350, R352) -/

theorem exec_branchForm {i : Instr} {cond : Cond} {rel : Rel} (hi : i.branchForm = some (cond, rel)) (s : State) :
    exec i s = branch cond rel s := by
  cases i with
  | bv | bnv | be | bne | bc | bnc | bse | bht | bn | bnn | ble | bgt | br => cases hi; rfl
  | _ => cases hi

theorem Cache.hasTarget_iff (c : Cache) (rel : Rel) (target : Word) :
    c.hasTarget rel target = true ↔ relLength rel = 1 ∧ c.inReach rel target = true := by
  have hneg (w : Word) : w.msb = decide (w.toInt < 0) := BitVec.msb_eq_toInt
  simp only [Cache.hasTarget, Cache.reaches, Cache.inReach, hneg, Bool.and_eq_true, beq_iff_eq, decide_eq_true_eq]
  refine and_congr_right fun _ => ?_
  split <;> simp

/-- The cache after a Branch taken in the words of the rule: only a branch of one half-word looks for its target in it (20 R116, R118). -/
theorem Cache.afterBranch_eq (c : Cache) (rel : Rel) (target : Word) :
    c.afterBranch rel target = if relLength rel = 1 ∧ c.inReach rel target then c else c.flush target :=
  ite_congr (propext (c.hasTarget_iff rel target)) (fun _ => rfl) fun _ => rfl

/-- The effects of a branch taken on the state underway (45 R350). -/
theorem underway_branchTo (s : State) (len : Nat) (target : Word) :
    (s.underway len 0 s.flags).branchTo target =
      { s.underway len 0 s.flags with
        pc := target &&& 0xFFFFFFFE
        sr := { (s.underway len 0 s.flags).sr with m := false, ilc := (s.draw 0).extractLsb' 0 2 }
        draws := s.draws + 1
        cache := s.cache.flush target } := rfl

/-- No encoding of the instruction names a global register. -/
theorem no_highGlobal (s : State) : (s.sr.h && false) = false := Bool.and_false _

theorem branch_slot {cond : Cond} {rel : Rel} {s : State} (hd : s.delay ≠ .none) : branch cond rel s = .refused .branchInDelaySlot :=
  instruction_refused (frameRefusal_slot (no_highGlobal s) hd)

theorem branch_notTaken {cond : Cond} {rel : Rel} {s : State} (hd : s.delay = .none) (hc : cond.holds s.flags = false) :
    branch cond rel s = .next (s.underway (relLength rel) 0 s.flags) := by
  rw [branch, instruction_eq (frameRefusal_branches ⟨no_highGlobal s, hd⟩), State.begin_flags, hc, hd]
  rfl

theorem branch_taken {cond : Cond} {rel : Rel} {s : State} (hd : s.delay = .none) (hc : cond.holds s.flags = true) :
    branch cond rel s = .next { (s.underway (relLength rel) 0 s.flags).branchTo (s.nextPc (relLength rel) + relValue rel) with
      cache := s.cache.afterBranch rel (s.nextPc (relLength rel) + relValue rel) } := by
  rw [branch, instruction_eq (frameRefusal_branches ⟨no_highGlobal s, hd⟩), State.begin_flags, hc, State.begin_pc, hd]
  rfl

/-- Settles O39: all thirteen are `branch`, which answers by its place and its condition. -/
theorem branches : Obligations.Branches := by
  intro i cond rel s hi len u target
  rw [exec_branchForm hi]
  refine ⟨branch_slot, branch_notTaken, fun hd hc => ?taken⟩
  case taken => rw [branch_taken hd hc, underway_branchTo, Cache.afterBranch_eq, State.nextPc_none hd]

/-! ### Delayed Branch instructions (45 R355 to R360) -/

theorem exec_delayedForm {i : Instr} {cond : Cond} {rel : Rel} (hi : i.delayedForm = some (cond, rel)) (s : State) :
    exec i s = delayedBranch cond rel s := by
  cases i with
  | dbv | dbnv | dbe | dbne | dbc | dbnc | dbse | dbht | dbn | dbnn | dble | dbgt | dbr => cases hi; rfl
  | _ => cases hi

theorem Cache.afterDelayed_eq (c : Cache) (rel : Rel) (m : Bool) (target : Word) :
    c.afterDelayed rel m target =
      if relLength rel = 1 ∧ (c.inReach rel target ∨ (0 ≤ (relValue rel).toInt ∧ m = true)) then c else { c with flushAfterSlot := true } := by
  refine ite_congr (propext ?_) (fun _ => rfl) fun _ => rfl
  rw [Bool.or_eq_true, Cache.hasTarget_iff, BitVec.msb_eq_toInt]
  simp only [Bool.and_eq_true, beq_iff_eq, Bool.not_eq_true', decide_eq_false_iff_not, Int.not_lt, and_assoc, ← and_or_left]

theorem delayedBranch_notTaken {cond : Cond} {rel : Rel} {s : State} (hd : s.delay = .none) (hc : cond.holds s.flags = false) :
    delayedBranch cond rel s = .next { s.underway (relLength rel) 0 s.flags with delay := .notTaken } := by
  rw [delayedBranch, if_pos hd, instruction_eq (frameRefusal_branches ⟨no_highGlobal s, hd⟩), State.begin_flags, hc, hd]
  rfl

theorem delayedBranch_taken {cond : Cond} {rel : Rel} {s : State} (hd : s.delay = .none) (hc : cond.holds s.flags = true) :
    delayedBranch cond rel s = .next { s.underway (relLength rel) 0 s.flags with
      pc := evenAddress (s.nextPc (relLength rel) + relValue rel)
      delay := .taken (s.nextPc (relLength rel))
      cache := s.cache.afterDelayed rel (s.underway (relLength rel) 0 s.flags).sr.m (s.nextPc (relLength rel) + relValue rel) } := by
  rw [delayedBranch, if_pos hd, instruction_eq (frameRefusal_branches ⟨no_highGlobal s, hd⟩), State.begin_flags, hc, State.begin_pc, hd]
  rfl

@[simp] theorem underway_sr_m (s : State) (len k : Nat) (f : Flags) : (s.underway len k f).sr.m = s.sr.m := by
  unfold State.underway State.srDuring; split <;> rfl

theorem frameRefusal_tooLong {s : State} {len : Nat} (hd : s.delay ≠ .none) (hl : 3 < s.sr.ilc.toNat + len) :
    s.frameRefusal len false false = some .delayPairTooLong := by
  unfold State.frameRefusal
  rw [no_highGlobal, if_neg Bool.false_ne_true]
  split
  next h => exact absurd h hd
  next => rw [if_neg Bool.false_ne_true, if_pos hl]

/-- In a delay position it is the Branch, from the PC that it finds (R360). -/
theorem misplacedBranch_eq {cond : Cond} {rel : Rel} {s : State} (hr : s.runs (relLength rel) false) :
    misplacedBranch cond rel s =
      if cond.holds s.flags then
        .next (((s.underway (relLength rel) 0 s.flags).branchTo (s.nextPc (relLength rel) + relValue rel)).settle s.delay)
      else .next (s.after (relLength rel) 0 s.flags) := by
  rw [misplacedBranch, instruction_eq (frameRefusal_runs hr), State.begin_flags, State.begin_pc]
  split <;> rfl

theorem delayedBranch_slot {cond : Cond} {rel : Rel} {s : State} (hd : s.delay ≠ .none) :
    delayedBranch cond rel s = misplacedBranch cond rel s := by rw [delayedBranch, if_neg hd]

/-- Settles O40: all thirteen are `delayedBranch`, which answers by its place and its condition. -/
theorem delayedBranches : Obligations.DelayedBranches := by
  intro i cond rel s hi len u past target
  rw [exec_delayedForm hi]
  refine ⟨delayedBranch_notTaken, fun hd hc => ?taken, fun hd hl => ?tooLong, fun hd hl hc => ?slotNotTaken, fun hd hl hc => ?slotTaken⟩
  case taken =>
    rw [delayedBranch_taken hd hc, Cache.afterDelayed_eq, underway_sr_m, State.nextPc_none hd]; rfl
  case tooLong => rw [delayedBranch_slot hd]; exact instruction_refused (frameRefusal_tooLong hd hl)
  case slotNotTaken => rw [delayedBranch_slot hd, misplacedBranch_eq ⟨no_highGlobal s, .inr hl⟩, hc, if_neg Bool.false_ne_true]
  case slotTaken => rw [delayedBranch_slot hd, misplacedBranch_eq ⟨no_highGlobal s, .inr hl⟩, hc, if_pos rfl, underway_branchTo]

/-! ### The frame that CALL and a trap open (45 R361, R367) -/

/-- The new frame of the state underway: the return address with S in bit 0 and the SR in the two registers where it begins. -/
theorem underway_openFrame (s : State) (len k : Nat) (ret : Word) (old : StatusReg) (fl : BitVec 4) :
    (s.underway len 0 s.flags).openFrame k ret old fl =
      { ((s.underway len 0 s.flags).writeLocal k (ret.extractLsb' 1 31 ++ BitVec.ofBool old.s)).writeLocal (k + 1) old.toWord with
        sr := { (s.underway len 0 s.flags).sr with fp := (s.underway len 0 s.flags).sr.fp + BitVec.ofNat 7 k, fl := fl, m := false } } := by
  rw [← returnWord_eq]; rfl

/-! ### CALL (45 R361 to R366) -/

@[simp] theorem underway_sr_fp (s : State) (len k : Nat) (f : Flags) : (s.underway len k f).sr.fp = s.sr.fp := by
  unfold State.underway State.srDuring; split <;> rfl

@[simp] theorem State.srDuring_s (s : State) (len : Nat) : (s.srDuring len).s = s.sr.s := by
  unfold State.srDuring; split <;> rfl

theorem execCall_eq {ld : BitVec 4} {rs : Reg} {const : Const} {s : State} (hb : s.branches rs.isGlobal) :
    execCall ld rs const s = .next { ((s.underway (constLength const) 0 s.flags).openFrame (frameLen ld) (s.nextPc (constLength const))
        (s.srDuring (constLength const)) 6).branchTo (callTarget (s.begin (constLength const)) rs const) with callLockout := true } := by
  rw [execCall, instruction_eq (frameRefusal_branches hb), State.begin_pc, State.begin_sr, hb.2]
  rfl

theorem callTarget_begin (s : State) (rs : Reg) (const : Const) (len : Nat) :
    callTarget (s.begin len) rs const = if rs.isSr then constValue const else s.operand len rs + constValue const := by
  rw [callTarget, State.begin_readReg]

/-- Settles O41: the frame is opened on the state underway, then the branch is taken. -/
theorem call : Obligations.Call := by
  intro ld rs const s len u k ret target
  rw [exec_call]
  refine ⟨fun hb => ?completes, fun hg hd => instruction_refused (frameRefusal_slot hg hd)⟩
  case completes =>
    rw [execCall_eq hb, underway_openFrame, callTarget_begin, State.srDuring_s, underway_sr_fp, State.nextPc_none hb.2]
    rfl

/-! ### Trap instructions (45 R367 to R369) -/

theorem exec_trapForm {i : Instr} {cond : Cond} {n : BitVec 6} (hi : i.trapForm = some (cond, n)) (s : State) :
    exec i s = trapIf cond n s := by
  cases i with
  | traple | trapgt | traplt | trapge | trapse | trapht | trapst | traphe | trape | trapne | trapv | trap => cases hi; rfl
  | _ => cases hi

@[simp] theorem underway_sr_fl (s : State) (len k : Nat) (f : Flags) : (s.underway len k f).sr.fl = s.sr.fl := by
  unfold State.underway State.srDuring; split <;> rfl

theorem trapIf_notTaken {cond : Cond} {n : BitVec 6} {s : State} (hd : s.delay = .none) (hc : cond.holds s.flags = false) :
    trapIf cond n s = .next (s.underway 1 0 s.flags) := by
  rw [trapIf, instruction_eq (frameRefusal_branches ⟨no_highGlobal s, hd⟩), State.begin_flags, hc, hd]
  rfl

theorem trapIf_taken {cond : Cond} {n : BitVec 6} {s : State} (hd : s.delay = .none) (hc : cond.holds s.flags = true) :
    trapIf cond n s = andThen (trapEntry s.bus.mcr n) fun e => .next ((s.underway 1 0 s.flags).enterTrap e (s.srDuring 1)) := by
  rw [trapIf, instruction_eq (frameRefusal_branches ⟨no_highGlobal s, hd⟩), State.begin_flags, hc, State.begin_sr, if_pos rfl,
    underway_bus, hd]
  cases trapEntry s.bus.mcr n <;> rfl

theorem underway_enterTrap (s : State) (e : Word) (old : StatusReg) :
    (s.underway 1 0 s.flags).enterTrap e old =
      { ((s.underway 1 0 s.flags).writeLocal (frameLen s.sr.fl) ((s.nextPc 1).extractLsb' 1 31 ++ BitVec.ofBool old.s)).writeLocal
          (frameLen s.sr.fl + 1) old.toWord with
        pc := e &&& 0xFFFFFFFE
        sr := { (s.underway 1 0 s.flags).sr with
          fp := s.sr.fp + BitVec.ofNat 7 (frameLen s.sr.fl), fl := 6, m := false, t := false, l := true, s := true
          ilc := (s.draw 0).extractLsb' 0 2 }
        draws := s.draws + 1
        cache := s.cache.flush e } := by
  rw [State.enterTrap, underway_openFrame, underway_sr_fp, underway_sr_fl]; rfl

/-- Settles O42: all twelve are `trapIf`, which answers by its place, its condition and the entry table. -/
theorem traps : Obligations.Traps := by
  intro i cond n s hi u k
  rw [exec_trapForm hi]
  refine ⟨fun hd => instruction_refused (frameRefusal_slot (no_highGlobal s) hd), trapIf_notTaken, fun hd hc e he => ?taken,
    fun hd hc r hr => ?reserved⟩
  case taken =>
    rw [trapIf_taken hd hc, he, andThen_next, underway_enterTrap, State.nextPc_none hd, State.srDuring_none hd]; rfl
  case reserved => rw [trapIf_taken hd hc, hr, andThen_refused]

/-! ### FRAME (45 R370 to R372) -/

/-- The frame of FRAME on the state underway, before anything is pushed (R370). -/
def State.reframed (s : State) (ld ls : BitVec 4) : State :=
  { s.underway 1 0 s.flags with
    sr := { (s.underway 1 0 s.flags).sr with fp := s.sr.fp - ls.setWidth 7, fl := ld, m := false } }

/-- The registers that FRAME finds available less those it requires (R370). -/
def State.available (s : State) (ld ls : BitVec 4) : BitVec 7 := frameDifference s.sp (s.sr.fp - ls.setWidth 7) ld

theorem execFrame_eq {ld ls : BitVec 4} {s : State} (hr : s.runs 1 false) :
    execFrame ld ls s = finish s.delay
      (andThen ((s.reframed ld ls).push (shortfall (s.available ld ls))) fun u =>
        .next (u, decide (0 < shortfall (s.available ld ls)) && decide (s.ub ≤ s.sp))) := by
  rw [execFrame, instruction_eq (frameRefusal_runs hr), underway_sr_fp]; rfl

/-- Settles O44: what is missing is pushed, and the error is raised after it. -/
theorem frameInstruction : Obligations.FrameInstruction := by
  intro ld ls s hr u v available
  have hk : shortfall (s.available ld ls) = (-available).toNat := shortfall_eq _
  rw [exec_frame, execFrame_eq hr, hk]
  refine ⟨fun hpos => ?enough, fun hneg => ?missing⟩
  case enough =>
    rw [show (-available).toNat = 0 by omega]; rfl
  case missing =>
    intro k hw
    have hk : 0 < k := by omega
    rw [push_eq k (s.reframed ld ls) hw, andThen_next, decide_eq_true hk, Bool.true_and]
    by_cases hub : s.ub.toNat ≤ s.sp.toNat
    · rw [if_pos hub, decide_eq_true (show s.ub ≤ s.sp from hub), finish_error]; rfl
    · rw [if_neg hub, decide_eq_false (show ¬s.ub ≤ s.sp from hub), finish_ok]; rfl

/-! ### What a push leaves in memory (45 R371) -/

/-- The address of byte `b` of the `j`-th word above SP. -/
def State.stackByte (t : State) (j b : Nat) : Word := t.sp + 4 * BitVec.ofNat 32 j + BitVec.ofNat 32 b

/-- The `k` words from SP on can be pushed each to bytes of its own: they are writable, no configuration addresses, and share no cell. -/
structure State.Pushable (t : State) (k : Nat) : Prop where
  memWf : t.memWf = true
  aligned : t.sp.toNat % 4 = 0
  writable : ∀ j b, j < k → b < 4 → t.writable (t.stackByte j b) = true ∧ isSdramConfig t.bus.mcr (t.stackByte j b) = false
  apart : ∀ j b j' b', j < k → b < 4 → j' < k → b' < 4 → t.cellOf (t.stackByte j b) = t.cellOf (t.stackByte j' b') → j = j' ∧ b = b'

theorem State.stackByte_zero (t : State) (b : Nat) : t.stackByte 0 b = t.sp + BitVec.ofNat 32 b := by simp [State.stackByte]

theorem State.stackByte_word (t : State) (j : Nat) : t.stackByte j 0 = t.sp + 4 * BitVec.ofNat 32 j := BitVec.add_zero _

theorem pushOne_stackByte (t : State) (j b : Nat) : t.pushOne.stackByte j b = t.stackByte (j + 1) b := by
  rw [State.stackByte, State.stackByte, pushOne_sp, addr_succ]

theorem align_word_of_aligned {a : Word} (h : a.toNat % 4 = 0) : Size.word.align a = a := by
  have hw : (Size.word.align a).toNat = a.toNat - a.toNat % 4 := wordAddress_toNat a
  exact BitVec.eq_of_toNat_eq (by omega)

theorem written_of_memory {t : State} {z : Size} {a : Word} (v : Word) (h : isSdramConfig t.bus.mcr a = false) :
    t.written z a v = t.store z a v := by
  rw [State.written, h, if_neg Bool.false_ne_true]

/-- Pushing one register stores it at SP. -/
theorem pushOne_eq {t : State} {k : Nat} (h : t.Pushable (k + 1)) :
    t.pushOne = { t.store .word t.sp (t.readAbsolute t.sp) with sp := t.sp + 4 } := by
  have hc := (h.writable 0 0 (by omega) (by omega)).2
  rw [State.stackByte_zero, BitVec.add_zero] at hc
  rw [State.pushOne, written_of_memory _ hc]

theorem pushOne_platform (t : State) : t.pushOne.platform = t.platform := by
  show (t.written .word t.sp (t.readAbsolute t.sp)).platform = _
  rw [written_frame]

theorem pushOne_cellOf (t : State) (a : Word) : t.pushOne.cellOf a = t.cellOf a :=
  State.cellOf_congr (pushOne_platform t) (pushOne_mcr t) a

theorem State.Pushable.pushOne {t : State} {k : Nat} (h : t.Pushable (k + 1)) : t.pushOne.Pushable k where
  memWf := by rw [pushOne_eq h]; exact State.store_wf _ _ _ h.memWf
  aligned := by
    have := h.aligned
    rw [pushOne_sp]; bv_omega
  writable := fun j b hj hb => by
    rw [pushOne_stackByte, pushOne_mcr, State.writable_congr (pushOne_platform t) (pushOne_mcr t)]
    exact h.writable (j + 1) b (by omega) hb
  apart := fun j b j' b' hj hb hj' hb' hc => by
    simp only [pushOne_stackByte, pushOne_cellOf] at hc
    obtain ⟨he, hb⟩ := h.apart (j + 1) b (j' + 1) b' (by omega) hb (by omega) hb' hc
    exact ⟨by omega, hb⟩

/-- The bytes after pushing one register are those after its store at SP. -/
theorem byteAt_pushOne {t : State} {k : Nat} (h : t.Pushable (k + 1)) (a : Word) :
    t.pushOne.byteAt a = (t.store .word t.sp (t.readAbsolute t.sp)).byteAt a := by
  rw [pushOne_eq h]; exact State.byteAt_congr rfl rfl rfl rfl a

theorem byteAt_pushOne_ne {t : State} {k : Nat} {a : Word} (h : t.Pushable (k + 1))
    (ha : ∀ b, b < 4 → t.cellOf a ≠ t.cellOf (t.stackByte 0 b)) : t.pushOne.byteAt a = t.byteAt a := by
  rw [byteAt_pushOne h]
  refine State.byteAt_store_uncovered fun ⟨b, hb, hc⟩ => ha b hb ?_
  rw [State.stackByte_zero, hc, align_word_of_aligned h.aligned]

theorem byteAt_pushOne_same {t : State} {k b : Nat} (h : t.Pushable (k + 1)) (hb : b < 4) :
    t.pushOne.byteAt (t.stackByte 0 b) = some (Size.word.byteOf (t.readAbsolute t.sp) b) := by
  have hw := (h.writable 0 b (by omega) hb).1
  have hmem : b ∈ List.range Size.word.bytes := List.mem_range.mpr hb
  have hinj : ∀ j ∈ List.range Size.word.bytes, t.cellOf (t.sp + BitVec.ofNat 32 b) = t.cellOf (t.sp + BitVec.ofNat 32 j) → b = j :=
    fun j hj hc => (h.apart 0 b 0 j (by omega) hb (by omega) (List.mem_range.mp hj) (by rwa [State.stackByte_zero, State.stackByte_zero])).2
  rw [State.stackByte_zero] at hw ⊢
  rw [byteAt_pushOne h, State.store_eq_writeListed, align_word_of_aligned h.aligned,
    State.byteAt_writeListed_mem h.memWf List.nodup_range hmem hinj, if_pos hw]

/-- SP is past the words pushed. -/
theorem pushed_sp (k : Nat) (t : State) : (t.pushed k).sp = t.sp + 4 * BitVec.ofNat 32 k := by
  induction k generalizing t with
  | zero => exact (BitVec.add_zero _).symm
  | succ k ih => rw [State.pushed, ih, pushOne_sp, addr_succ]

theorem pushed_locals (k : Nat) (t : State) : (t.pushed k).locals = t.locals := by
  induction k generalizing t with
  | zero => rfl
  | succ k ih => rw [State.pushed, ih, pushOne_locals]

theorem byteAt_pushed_ne {k : Nat} {t : State} {a : Word} (h : t.Pushable k)
    (ha : ∀ j b, j < k → b < 4 → t.cellOf a ≠ t.cellOf (t.stackByte j b)) : (t.pushed k).byteAt a = t.byteAt a := by
  induction k generalizing t with
  | zero => rfl
  | succ k ih =>
    rw [State.pushed, ih h.pushOne fun j b hj hb => ?later, byteAt_pushOne_ne h fun b hb => ha 0 b (by omega) hb]
    case later =>
      rw [pushOne_stackByte, pushOne_cellOf, pushOne_cellOf]
      exact ha (j + 1) b (by omega) hb

/-- Each byte pushed is that of the register which its word's address names. -/
theorem byteAt_pushed {k : Nat} {t : State} (h : t.Pushable k) {j b : Nat} (hj : j < k) (hb : b < 4) :
    (t.pushed k).byteAt (t.stackByte j b) = some (Size.word.byteOf (t.readAbsolute (t.stackByte j 0)) b) := by
  induction k generalizing t j with
  | zero => omega
  | succ k ih =>
    rw [State.pushed]
    cases j with
    | zero =>
      have hlater : ∀ j' b', j' < k → b' < 4 → t.pushOne.cellOf (t.stackByte 0 b) ≠ t.pushOne.cellOf (t.pushOne.stackByte j' b') :=
        fun j' b' hj' hb' hc => by
          rw [pushOne_stackByte, pushOne_cellOf, pushOne_cellOf] at hc
          have := (h.apart 0 b (j' + 1) b' (by omega) hb (by omega) hb' hc).1
          omega
      rw [byteAt_pushed_ne h.pushOne hlater, byteAt_pushOne_same h hb, State.stackByte_zero, BitVec.add_zero]
    | succ j =>
      have hlocals (a : Word) : t.pushOne.readAbsolute a = t.readAbsolute a := by
        rw [State.readAbsolute, State.readAbsolute, pushOne_locals]
      rw [← pushOne_stackByte, ← pushOne_stackByte, ih h.pushOne (by omega), hlocals]

/-- The bytes of a word, joined. -/
theorem join_byteOf_word (v : Word) : Size.word.join (Size.word.byteOf v) = v := by
  have hhigh : v.extractLsb' 24 8 ++ v.extractLsb' 16 8 = v.extractLsb' 16 16 := BitVec.extractLsb'_append_extractLsb'_eq_extractLsb' rfl
  have hlow : v.extractLsb' 8 8 ++ v.extractLsb' 0 8 = v.extractLsb' 0 16 := BitVec.extractLsb'_append_extractLsb'_eq_extractLsb' rfl
  calc Size.word.join (Size.word.byteOf v)
      = (v.extractLsb' 24 8 ++ v.extractLsb' 16 8) ++ (v.extractLsb' 8 8 ++ v.extractLsb' 0 8) := word_halves ..
    _ = v := by rw [hhigh, hlow]; exact BitVec.extractLsb'_append_extractLsb' (w := 16) (len := 16)

theorem toNat_mod_four_of_low {w : Word} (h : w.extractLsb' 0 2 = 0) : w.toNat % 4 = 0 := by
  have := congrArg BitVec.toNat h
  rwa [BitVec.extractLsb'_toNat] at this

/-- Settles O45: by induction on the number of words, each stored to bytes of its own. -/
theorem pushedWords : Obligations.PushedWords := by
  intro t k hwf _ hsp at_ hw hc
  have h : t.Pushable k := ⟨hwf, toNat_mod_four_of_low hsp, hw, hc⟩
  refine ⟨pushed_sp k t, pushed_locals k t, fun j hj => ?reads, fun a ha => byteAt_pushed_ne h ha⟩
  case reads =>
    have haligned : Size.word.align (at_ j 0) = at_ j 0 := align_word_of_aligned (by
      have := h.aligned
      show (t.stackByte j 0).toNat % 4 = 0
      rw [State.stackByte_word]; bv_omega)
    rw [← join_byteOf_word (t.readAbsolute (at_ j 0))]
    refine State.valueAt_connected fun b hb => ?_
    rw [haligned]
    have hbyte := byteAt_pushed h hj hb
    simpa [at_, State.stackByte] using hbyte

/-! ### RET (45 R380 to R382) -/

/-- PC and SR restored on the state underway, before anything is pulled (R380). -/
def State.returned (s : State) (a b : Word) : State := (s.underway 1 0 s.flags).restore a b

theorem returnFault_iff (old : StatusReg) (a b : Word) :
    returnFault old (returnedSr a b) = true ↔
      (old.s = false ∧ a.getLsbD 0 = true) ∨ (a.getLsbD 0 = false ∧ old.l = false ∧ (StatusReg.ofWord b).l = true) := by
  simp only [returnFault, returnedSr, Bool.or_eq_true, Bool.and_eq_true, Bool.not_eq_true', and_assoc]

@[simp] theorem State.srDuring_l (s : State) (len : Nat) : (s.srDuring len).l = s.sr.l := by
  unfold State.srDuring; split <;> rfl

theorem execRet_reserved {rs : Reg} {s : State} (hb : s.branches true) (hf : followSlot rs = none) :
    execRet rs s = .refused .reservedRegister := by
  rw [execRet, instruction_eq (frameRefusal_branches hb), withFollower, hf]; rfl

theorem execRet_eq {rs : Reg} {rsf : Slot} {s : State} (hb : s.branches true) (hf : followSlot rs = some rsf) :
    let a := s.operand 1 rs
    let b := s.slotDuring 1 rsf
    execRet rs s = finish s.delay
      (andThen ((s.returned a b).pull (shortfall ((returnedSr a b).fp - s.sp.extractLsb' 2 7))) fun u =>
        .next (u, returnFault (s.srDuring 1) (returnedSr a b))) := by
  intro a b
  rw [execRet, instruction_eq (frameRefusal_branches hb), withFollower, hf]
  simp only [State.begin_readReg, State.begin_readSlot, State.begin_sr]
  rfl

/-- Settles O46: the words that are missing are pulled into the restored frame, and the error is raised after it. -/
theorem returns : Obligations.Return := by
  intro rs s _ hb
  rw [exec_ret]
  refine ⟨execRet_reserved hb, fun rsf hf => ?completes⟩
  case completes =>
    intro a q v k hw
    have hk : shortfall ((returnedSr a (s.slotDuring 1 rsf)).fp - s.sp.extractLsb' 2 7) = k := shortfall_eq _
    have hfault := returnFault_iff (s.srDuring 1) a (s.slotDuring 1 rsf)
    rw [State.srDuring_s, State.srDuring_l] at hfault
    rw [execRet_eq hb hf, hk, pull_eq k (s.returned a (s.slotDuring 1 rsf)) hw, andThen_next]
    split
    next he => rw [hfault.mpr he, finish_error]; rfl
    next he => rw [Bool.eq_false_iff.mpr (mt hfault.mp he), finish_ok, hb.2]; rfl

/-! ### A Return through what a Call saved (45 R361, R364, R380) -/

/-- The SR is held in a word without loss (10_state R26). -/
theorem StatusReg.ofWord_toWord (r : StatusReg) : StatusReg.ofWord r.toWord = r := by
  obtain ⟨c, z, n, v, m, h, r6, i, fte, frm, l, t, p, s, ilc, fl, fp⟩ := r
  rw [StatusReg.ofWord, StatusReg.toWord]
  congr 1
  case e_fte | e_frm | e_ilc | e_fl =>
    simp (disch := decide) only [BitVec.extractLsb'_append_eq_of_le]
    exact BitVec.extractLsb'_append_eq_right
  case e_fp =>
    simp (disch := decide) only [BitVec.extractLsb'_append_eq_of_le]
    exact BitVec.extractLsb'_eq_self
  all_goals
    simp only [BitVec.getLsbD_append]
    simp

theorem getLsbD_zero_append_ofBool (x : BitVec 31) (b : Bool) : (x ++ BitVec.ofBool b : Word).getLsbD 0 = b := by
  rw [BitVec.getLsbD_append, if_pos Nat.zero_lt_one]; simp

/-- A return address at an even address is the one saved, whatever S is (10_state R22). -/
theorem evenAddress_returnWord {ret : Word} (b : Bool) (h : ret.getLsbD 0 = false) : evenAddress (returnWord ret b) = ret := by
  have heven : ret &&& 0xFFFFFFFE = ret := half_align_even (by simpa [BitVec.getLsbD, Nat.testBit_zero] using h)
  have hbit : (BitVec.ofBool b).setWidth 32 &&& (0xFFFFFFFE : Word) = 0#32 := by cases b <;> decide
  rw [evenAddress, returnWord, evenAddress, heven, BitVec.and_or_distrib_right, heven, hbit, BitVec.or_zero]

theorem getLsbD_zero_add_even {p : Word} (h : p.getLsbD 0 = false) (n : Nat) : (p + BitVec.ofNat 32 (2 * n)).getLsbD 0 = false := by
  simp only [BitVec.getLsbD, Nat.testBit_zero, decide_eq_false_iff_not] at h ⊢
  bv_omega

/-- The registers of a frame that begins at FP + k are those above FP + k. -/
theorem readLocal_of_frame {s t : State} {k : Nat} (hl : t.locals = s.locals) (hfp : t.sr.fp = s.sr.fp + BitVec.ofNat 7 k) (j : Nat) :
    t.readLocal j = s.readLocal (k + j) := by
  have hi : (t.sr.fp.toNat + j) % 64 = (s.sr.fp.toNat + (k + j)) % 64 := by
    rw [hfp, BitVec.toNat_add, BitVec.toNat_ofNat]
    omega
  simp only [State.readLocal, State.localIndex, hl, hi]

/-- L0 and L1 of a frame just opened hold the return address with S and the SR. -/
theorem openFrame_saved (u : State) {k : Nat} (hk : k ≤ 16) (ret : Word) (old : StatusReg) (fl : BitVec 4) :
    (u.openFrame k ret old fl).readLocal 0 = returnWord ret old.s ∧ (u.openFrame k ret old fl).readLocal 1 = old.toWord := by
  have hframe (j : Nat) : (u.openFrame k ret old fl).readLocal j =
      ((u.writeLocal k (returnWord ret old.s)).writeLocal (k + 1) old.toWord).readLocal (k + j) :=
    readLocal_of_frame (State.openFrame_locals ..) rfl j
  rw [hframe, hframe]
  exact ⟨(readLocal_writeLocal_ne _ _ (by omega) (by omega) (by omega)).trans (readLocal_writeLocal_same ..), readLocal_writeLocal_same ..⟩

theorem frameLen_le (fl : BitVec 4) : frameLen fl ≤ 16 := by
  unfold frameLen; split <;> omega

/-- What a Call leaves for the Return: in L0 and L1 the return address and the SR, and S and L as they were. -/
structure State.Called (s : State) (len : Nat) (t : State) : Prop where
  saved : t.readLocal 0 = returnWord (s.nextPc len) s.sr.s
  savedSr : t.readLocal 1 = (s.srDuring len).toWord
  supervisor : t.sr.s = s.sr.s
  lock : t.sr.l = s.sr.l
  high : t.sr.h = false
  delay : t.delay = .none
  sp : t.sp = s.sp

theorem call_called {ld : BitVec 4} {rs : Reg} {const : Const} {s t : State} (hb : s.branches rs.isGlobal)
    (h : exec (.call ld rs const) s = .next t) : s.Called (constLength const) t := by
  rw [exec_call, execCall_eq hb] at h
  obtain rfl := Host.Outcome.next.inj h
  obtain ⟨h0, h1⟩ := openFrame_saved (s.underway (constLength const) 0 s.flags) (frameLen_le ld) (s.nextPc (constLength const))
    (s.srDuring (constLength const)) 6
  rw [State.srDuring_s] at h0
  exact ⟨h0, h1, s.srDuring_s _, s.srDuring_l _, rfl, rfl, rfl⟩

/-- A Return through the L0 and L1 that a Call left, where it needs no word from memory. -/
theorem ret_of_called {s t : State} {len : Nat} (hc : s.Called len t)
    (hsp : 0 ≤ ((s.srDuring len).fp - s.sp.extractLsb' 2 7).toInt) :
    exec (.ret (.l 0)) t = .next (t.returned (returnWord (s.nextPc len) s.sr.s) (s.srDuring len).toWord) := by
  have hb : t.branches true := ⟨by rw [hc.high]; rfl, hc.delay⟩
  have ha : t.operand 1 (.l 0) = returnWord (s.nextPc len) s.sr.s := hc.saved
  have hb' : t.slotDuring 1 (.loc 1) = (s.srDuring len).toWord := hc.savedSr
  have hk : shortfall ((s.srDuring len).fp - s.sp.extractLsb' 2 7) = 0 := by rw [shortfall_eq]; omega
  have hfault : returnFault (t.srDuring 1) (returnedSr (returnWord (s.nextPc len) s.sr.s) (s.srDuring len).toWord) = false := by
    rw [returnFault, returnedSr, StatusReg.ofWord_toWord, State.srDuring_s, State.srDuring_l, State.srDuring_l, hc.supervisor, hc.lock,
      returnWord_eq, getLsbD_zero_append_ofBool]
    cases s.sr.s <;> cases s.sr.l <;> rfl
  rw [exec_ret, execRet_eq hb (rsf := .loc 1) rfl, ha, hb', hfault, hc.delay]
  simp only [returnedSr, StatusReg.ofWord_toWord, hc.sp, hk]
  rfl

/-- Settles O47: L0 and L1 are the words saved, and the SR read back from its word is the one saved. -/
theorem returnUndoesCall : Obligations.ReturnUndoesCall := by
  intro ld const s t hb hpc h hsp
  have hc := call_called (rs := .l 0) hb h
  have hnext : s.nextPc (constLength const) = s.pc + BitVec.ofNat 32 (2 * constLength const) := State.nextPc_none hb.2 _
  have hsr := State.srDuring_none hb.2 (constLength const)
  have heven : (s.nextPc (constLength const)).getLsbD 0 = false := hnext ▸ getLsbD_zero_add_even hpc _
  refine ⟨_, ret_of_called hc (by rwa [hsr]), ?pc, ?sr, hc.sp⟩
  case pc => exact (evenAddress_returnWord _ heven).trans hnext
  case sr =>
    show returnedSr _ _ = _
    rw [returnedSr, StatusReg.ofWord_toWord, returnWord_eq, getLsbD_zero_append_ofBool, hsr]

end Sys2Proof.Machine


/-! ## Extended DSP (46_extended_dsp R400 to R416)

All fourteen are `dsp` of a result computed from the operands; what is left is that the model's range test of an exact integer is the question
whether it is the value of its wrapped bits (92_eei_decisions D15, D24). -/

namespace Sys2Proof.Machine

/-! ### Wrapped integers (D15, D24) -/

/-- The integer is the signed value of its low `w` bits. -/
def fitsSigned (w : Nat) (v : Int) : Bool := (BitVec.ofInt w v).toInt == v

theorem toInt_ofInt_eq_iff {w : Nat} (hw : 0 < w) (v : Int) :
    (BitVec.ofInt w v).toInt = v ↔ -(2 ^ (w - 1)) ≤ v ∧ v ≤ 2 ^ (w - 1) - 1 := by
  refine ⟨fun h => ?fits, fun ⟨hlo, hhi⟩ => ?wraps⟩
  case fits =>
    have hlo := BitVec.le_toInt (BitVec.ofInt w v)
    have hhi := BitVec.toInt_lt (x := BitVec.ofInt w v)
    rw [h] at hlo hhi
    exact ⟨hlo, Int.le_sub_one_of_lt hhi⟩
  case wraps =>
    exact BitVec.toInt_ofInt_eq_self hw hlo (Int.lt_of_le_sub_one hhi)

theorem outsideSigned_eq_not_fits {w : Nat} (hw : 0 < w) (v : Int) : outsideSigned w v = !fitsSigned w v := by
  rw [outsideSigned_eq, fitsSigned, Bool.not_inj_iff, Bool.eq_iff_iff, decide_eq_true_iff, beq_iff_eq, toInt_ofInt_eq_iff hw]

/-! ### What `dsp` reads and writes (R400, R401) -/

@[simp] theorem State.begin_dspIn (s : State) (len : Nat) (ld ls : BitVec 4) : (s.begin len).dspIn ld ls = s.dspIn ld ls := by
  simp only [State.dspIn, State.begin_readLocal, State.begin_readGlobal]

@[simp] theorem State.settle_dspWrite (s : State) (d : Delay) (o : DspOut) (b : Bool) :
    (s.dspWrite o b).settle d = (s.settle d).dspWrite o b := by
  unfold State.settle; split <;> rfl

@[simp] theorem after_eovPending (s : State) (len k : Nat) (f : Flags) : (s.after len k f).eovPending = s.eovPending := by
  unfold State.after State.settle; split <;> rfl

@[simp] theorem after_fcr (s : State) (len k : Nat) (f : Flags) : (s.after len k f).fcr = s.fcr := by
  unfold State.after State.settle; split <;> rfl

/-- G14 and G15 written at the end of an instruction of two half-words, and an overflow pended where it is enabled (R401). -/
def State.dspEnded (s : State) (g14 g15 : Word) (overflow : Bool) : State :=
  { ((s.after 2 0 s.flags).writeGlobal 14 g14).writeGlobal 15 g15 with
    eovPending := s.eovPending || (overflow && !s.fcr.getLsbD 16) }

section
variable {s : State} {ld ls : BitVec 4} {may : Bool}

theorem dsp_eq {f : DspIn → DspOut} {o : DspOut} (hr : s.runs 2 false) (ho : f (s.dspIn ld ls) = o) :
    dsp ld ls may s f = .next (s.dspEnded o.g14 o.g15 (may && o.overflow)) := by
  rw [dsp, instruction_eq (frameRefusal_runs hr), finish_done, State.settle_dspWrite, State.begin_dspIn, ho, ← State.after,
    State.dspWrite, after_eovPending, after_fcr, State.dspEnded]

/-! ### The four shapes of a result (R400, R411, R413, R416) -/

theorem dsp_single (hr : s.runs 2 false) (v : DspIn → Int) :
    let r := v (s.dspIn ld ls)
    dsp ld ls may s (fun i => dspSingle i (v i)) =
      .next (s.dspEnded (s.readGlobal 14) (BitVec.ofInt 32 r) (may && !fitsSigned 32 r)) := by
  intro r
  rw [dsp_eq hr rfl, ← outsideSigned_eq_not_fits (by decide)]; rfl

theorem dsp_double (hr : s.runs 2 false) (v : DspIn → Int) :
    let r := v (s.dspIn ld ls)
    dsp ld ls may s (fun i => dspDouble (v i)) =
      .next (s.dspEnded ((BitVec.ofInt 64 r).extractLsb' 32 32) ((BitVec.ofInt 64 r).extractLsb' 0 32) (may && !fitsSigned 64 r)) := by
  intro r
  rw [dsp_eq hr rfl, ← outsideSigned_eq_not_fits (by decide)]; rfl

theorem dsp_complex (hr : s.runs 2 false) (re im : DspIn → Int) :
    let a := re (s.dspIn ld ls)
    let b := im (s.dspIn ld ls)
    dsp ld ls true s (fun i => dspComplex (re i) (im i)) =
      .next (s.dspEnded (BitVec.ofInt 32 a) (BitVec.ofInt 32 b) (!fitsSigned 32 a || !fitsSigned 32 b)) := by
  intro a b
  rw [dsp_eq hr rfl]
  simp only [← outsideSigned_eq_not_fits (w := 32) (by decide)]; rfl

theorem dsp_halves (hr : s.runs 2 false) (p q u v : DspIn → Int) :
    let a := p (s.dspIn ld ls)
    let b := q (s.dspIn ld ls)
    let c := u (s.dspIn ld ls)
    let d := v (s.dspIn ld ls)
    dsp ld ls true s (fun i => dspHalves (p i) (q i) (u i) (v i)) =
      .next (s.dspEnded (BitVec.ofInt 16 a ++ BitVec.ofInt 16 b) (BitVec.ofInt 16 c ++ BitVec.ofInt 16 d)
        (!fitsSigned 16 a || !fitsSigned 16 b || !fitsSigned 16 c || !fitsSigned 16 d)) := by
  intro a b c d
  rw [dsp_eq hr rfl]
  simp only [← outsideSigned_eq_not_fits (w := 16) (by decide)]; rfl

end

/-- Settles O48: each of the fourteen is `dsp` with a result of one of the four shapes. -/
theorem extendedDsp : Obligations.ExtendedDsp := by
  intro ld ls s hd
  have hr : s.runs 2 false := ⟨no_highGlobal s, hd⟩
  exact ⟨
    (exec_emul ..).trans (dsp_single hr _), (exec_emulu ..).trans (dsp_double hr _), (exec_emuls ..).trans (dsp_double hr _),
    (exec_emac ..).trans (dsp_single hr _), (exec_emacd ..).trans (dsp_double hr _),
    (exec_emsub ..).trans (dsp_single hr _), (exec_emsubd ..).trans (dsp_double hr _),
    (exec_ehmac ..).trans (dsp_single hr _), (exec_ehmacd ..).trans (dsp_double hr _),
    (exec_ehcmuld ..).trans (dsp_complex hr _ _), (exec_ehcmacd ..).trans (dsp_complex hr _ _),
    (exec_ehcsumd ..).trans (dsp_halves hr _ _ _ _), (exec_ehcfftd ..).trans (dsp_halves hr _ _ _ _),
    (exec_ehcfftsd ..).trans (dsp_halves hr _ _ _ _)⟩

end Sys2Proof.Machine

/-! ## Software instructions (47_software_floating_point R430 to R433)

All fifteen are `software`, which saves five words above the frame of the state underway and then takes a branch. -/

namespace Sys2Proof.Machine

theorem exec_softwareForm {i : Instr} {op ld ls : BitVec 4} (hi : i.softwareForm = some (op, ld, ls)) (s : State) :
    exec i s = software op ld ls s := by
  cases i with
  | fadd | faddd | fsub | fsubd | fmul | fmuld | fdiv | fdivd | fcmp | fcmpd | fcmpu | fcmpud | fcvt | fcvtd | softDo => cases hi; rfl
  | _ => cases hi

/-- The stack address of Ld, its code counted in words (R432; log 50). -/
theorem operandAddress_begin (s : State) (len : Nat) (ld : BitVec 4) :
    operandAddress (s.begin len) ld = stackAddress s.sp s.sr.fp + BitVec.ofNat 32 (4 * ld.toNat) := by
  have hcode : 4 * ld.setWidth 32 = BitVec.ofNat 32 (4 * ld.toNat) := by revert ld; decide
  rw [operandAddress, State.begin_sp, State.begin_sr_fp, hcode]

/-- The five words saved by the state underway (R430). -/
theorem underway_saveSoftware (s : State) (ld ls : BitVec 4) :
    (s.underway 1 0 s.flags).saveSoftware (s.begin 1) ld ls =
      (((((s.underway 1 0 s.flags).writeLocal (frameLen s.sr.fl) (stackAddress s.sp s.sr.fp + BitVec.ofNat 32 (4 * ld.toNat))).writeLocal
        (frameLen s.sr.fl + 1) (s.readLocal ls.toNat)).writeLocal
        (frameLen s.sr.fl + 2) (s.readLocal (ls.toNat + 1))).writeLocal
        (frameLen s.sr.fl + 3) ((s.nextPc 1).extractLsb' 1 31 ++ BitVec.ofBool s.sr.s)).writeLocal
        (frameLen s.sr.fl + 4) (s.srDuring 1).toWord := by
  rw [State.saveSoftware, operandAddress_begin, State.begin_readLocal, State.begin_readLocal, returnWord_eq, State.begin_pc, State.begin_sr_s,
    State.begin_sr_fl, State.begin_sr]

/-- The state that the entry of a Software instruction leaves, with the words saved (R430). -/
def State.enterSoftware (w : State) (k : Nat) (entry : Word) : State :=
  ({ w with sr := { w.sr with fp := w.sr.fp + BitVec.ofNat 7 k, fl := 6, t := false, l := true } } : State).branchTo entry

theorem software_eq {op ld ls : BitVec 4} {s : State} (hd : s.delay = .none) :
    software op ld ls s = andThen (softwareEntry s.bus.mcr op) fun e =>
      .next (((s.underway 1 0 s.flags).saveSoftware (s.begin 1) ld ls).enterSoftware (frameLen s.sr.fl) e) := by
  rw [software, instruction_eq (frameRefusal_branches ⟨no_highGlobal s, hd⟩), State.begin_sr_fl, underway_bus, hd]
  cases softwareEntry s.bus.mcr op <;> rfl

/-- Settles O43: the five words are saved by the state underway, then the branch is taken. -/
theorem softwareInstructions : Obligations.SoftwareInstructions := by
  intro i op ld ls s hi u k carry sa
  rw [exec_softwareForm hi]
  refine ⟨fun hd => instruction_refused (frameRefusal_slot (no_highGlobal s) hd), fun hd e he => ?taken, fun hd r hr => ?reserved⟩
  case taken =>
    rw [software_eq hd, he, andThen_next, underway_saveSoftware, stackAddress_eq, State.nextPc_none hd, State.srDuring_none hd,
      State.enterSoftware]
    simp only [State.writeLocal_sr, underway_sr_fp]
    rfl
  case reserved => rw [software_eq hd, hr, andThen_refused]

end Sys2Proof.Machine


/-! ## User state (60_exceptions R502, R503)

What user state may not do is said of the state that an instruction leaves, by `SamePrivileged` of the registers of R502 (a) and by `Confined` of S
and L, and is carried from the operations of the machine along the shapes of instructions. -/

namespace Sys2Proof.Machine

/-! ### The registers that user state may not write (60 R502) -/

/-- The registers of 60 R502 (a) but SP, and the devices behind them, are as they were. -/
structure State.SamePrivileged (s t : State) : Prop where
  ub : t.ub = s.ub
  bcr : t.bus.bcr = s.bus.bcr
  mcr : t.bus.mcr = s.bus.mcr
  timer : t.timer = s.timer
  io3 : t.io3 = s.io3
  fcr : t.fcr = s.fcr

theorem State.SameOutside.privileged {s t : State} (h : s.SameOutside t) : s.SamePrivileged t :=
  ⟨h.ub, by rw [h.bus], by rw [h.bus], h.timer, h.io3, h.fcr⟩

namespace State.SamePrivileged

variable {s t u : State}

theorem trans (h : s.SamePrivileged t) (h' : t.SamePrivileged u) : s.SamePrivileged u where
  ub := h'.ub.trans h.ub
  bcr := h'.bcr.trans h.bcr
  mcr := h'.mcr.trans h.mcr
  timer := h'.timer.trans h.timer
  io3 := h'.io3.trans h.io3
  fcr := h'.fcr.trans h.fcr

/-- A state that differs in its registers, its memory, what is outside the processor and its power. -/
theorem of_frame (h : s.SamePrivileged t)
    (hu : u = { t with
                pc := u.pc, sr := u.sr, g := u.g, locals := u.locals, sp := u.sp, delay := u.delay, callLockout := u.callLockout
                cache := u.cache, draws := u.draws, parityPending := u.parityPending, power := u.power, mem := u.mem, ioLog := u.ioLog
                bus := { t.bus with sdcr := u.bus.sdcr, sdramMode := u.bus.sdramMode } }) : s.SamePrivileged u := by
  rw [hu]; exact h.trans ⟨rfl, rfl, rfl, rfl, rfl, rfl⟩

theorem writeSlot (h : s.SamePrivileged t) (v : Word) (x : Slot) : s.SamePrivileged (t.writeSlot v x) :=
  h.trans (t.writeSlot_changesOnly (w := [x]) v (List.mem_singleton.mpr rfl)).outside.privileged

theorem advance (h : s.SamePrivileged t) (x : Access) (r : State) : s.SamePrivileged (x.advance r t) := by
  rw [Access.advance_frame]; exact h.of_frame rfl

theorem memRead {z : Size} {a v : Word} (h : s.SamePrivileged t) (hr : t.memRead z a = .next (v, u)) : s.SamePrivileged u := by
  obtain ⟨-, -, rfl⟩ := memRead_inv hr
  exact h.of_frame rfl

theorem memWrite {z : Size} {a v : Word} (h : s.SamePrivileged t) (hr : t.memWrite z a v = .next u) : s.SamePrivileged u := by
  obtain ⟨-, rfl⟩ := memWrite_inv hr
  rw [written_frame]; exact h.of_frame rfl

theorem ioRead {a v : Word} (h : s.SamePrivileged t) (hr : t.ioRead a = .next (v, u)) : s.SamePrivileged u := by
  rcases ioRead_inv hr with ⟨-, rfl⟩ | ⟨-, rfl⟩ <;> exact h.of_frame rfl

theorem ioWrite {a v : Word} (h : s.SamePrivileged t) (hr : t.ioWrite a v = .next u) : s.SamePrivileged u := by
  rcases ioWrite_inv hr with rfl | rfl | rfl <;> exact h.of_frame rfl

theorem stackRead {a v : Word} (h : s.SamePrivileged t) (hr : t.stackRead a = .next (v, u)) : s.SamePrivileged u := by
  rcases stackRead_inv hr with ⟨-, hr⟩ | ⟨-, -, rfl⟩
  · exact h.memRead hr
  · exact h

theorem stackWrite {a v : Word} (h : s.SamePrivileged t) (hr : t.stackWrite a v = .next u) : s.SamePrivileged u := by
  rcases stackWrite_inv hr with ⟨-, hr⟩ | ⟨-, rfl⟩
  · exact h.memWrite hr
  · exact h.of_frame rfl

theorem loadWord {ty : DataType} {base a v : Word} (h : s.SamePrivileged t) (hr : t.loadWord ty base a = .next (v, u)) : s.SamePrivileged u := by
  unfold State.loadWord at hr
  split at hr
  · cases hr
  · obtain ⟨⟨v', u'⟩, hr, hu⟩ := andThen_inv hr
    cases hu; exact h.memRead hr

theorem storeWord {ty : DataType} {base a v : Word} (h : s.SamePrivileged t) (hr : t.storeWord ty base a v = .next u) : s.SamePrivileged u := by
  unfold State.storeWord at hr
  split at hr
  · cases hr
  · exact h.memWrite hr

theorem loadMemory {ty : DataType} {base a : Word} {rs : Reg} (h : s.SamePrivileged t) (hr : t.loadMemory ty base a rs = .next u) :
    s.SamePrivileged u := by
  obtain ⟨⟨v, t1⟩, h1, hr⟩ := andThen_inv hr
  dsimp only at hr
  split at hr
  · obtain ⟨rsf, -, hr⟩ := withFollower_inv hr
    obtain ⟨⟨vf, t2⟩, h2, hr⟩ := andThen_inv hr
    cases hr; exact (((h.loadWord h1).loadWord h2).writeSlot _ _).writeSlot _ _
  · cases hr; exact (h.loadWord h1).writeSlot _ _

theorem storeMemory {ty : DataType} {base a v vf : Word} (h : s.SamePrivileged t) (hr : t.storeMemory ty base a v vf = .next u) :
    s.SamePrivileged u := by
  obtain ⟨t1, h1, hr⟩ := andThen_inv hr
  split at hr
  · exact (h.storeWord h1).storeWord hr
  · cases hr; exact h.storeWord h1

theorem loadIo {double : Bool} {a : Word} {rs : Reg} (h : s.SamePrivileged t) (hr : t.loadIo double a rs = .next u) : s.SamePrivileged u := by
  obtain ⟨⟨v, t1⟩, h1, hr⟩ := andThen_inv hr
  dsimp only at hr
  split at hr
  · obtain ⟨rsf, -, hr⟩ := withFollower_inv hr
    obtain ⟨⟨vf, t2⟩, h2, hr⟩ := andThen_inv hr
    cases hr; exact (((h.ioRead h1).ioRead h2).writeSlot _ _).writeSlot _ _
  · cases hr; exact (h.ioRead h1).writeSlot _ _

theorem storeIo {double : Bool} {a v vf : Word} (h : s.SamePrivileged t) (hr : t.storeIo double a v vf = .next u) : s.SamePrivileged u := by
  obtain ⟨t1, h1, hr⟩ := andThen_inv hr
  split at hr
  · exact (h.ioWrite h1).ioWrite hr
  · cases hr; exact h.ioWrite h1

/-- FRAME's pushes (45 R371). -/
theorem push {k : Nat} (h : s.SamePrivileged t) (hr : t.push k = .next u) : s.SamePrivileged u := by
  induction k generalizing t with
  | zero => cases hr; exact h
  | succ k ih =>
    obtain ⟨t1, h1, hr⟩ := andThen_inv hr
    exact ih ((h.memWrite h1).of_frame rfl) hr

/-- RET's pulls (45 R382). -/
theorem pull {k : Nat} (h : s.SamePrivileged t) (hr : t.pull k = .next u) : s.SamePrivileged u := by
  induction k generalizing t with
  | zero => cases hr; exact h
  | succ k ih =>
    obtain ⟨⟨v, t1⟩, h1, hr⟩ := andThen_inv hr
    exact ih ((h.memRead h1).of_frame rfl) hr

end State.SamePrivileged

section

variable {len : Nat} {g b double : Bool} {rd rs : Reg} {ld ls : BitVec 4} {dis : Word} {s t w u : State} {x : Access} {e : Bool}

/-- An instruction leaves what its body leaves. -/
theorem instruction_samePrivileged {body : State → State → Out (State × Bool)} (h : instruction len g b s body = .next t)
    (hb : ∀ v u e, s.SamePrivileged v → body (s.begin len) v = .next (u, e) → s.SamePrivileged u) : s.SamePrivileged t := by
  obtain ⟨-, u, e, hu, he⟩ := instruction_inv h
  have hstart := (s.underway_changesOnly len 0 s.flags []).outside.privileged
  exact (hb _ u e hstart hu).trans (ends_sameOutside (he.imp And.right And.right)).privileged

theorem Access.run_samePrivileged {body : Access → State → State → Out (State × Bool)} (h : x.run body s = .next t)
    (hb : ∀ v u e, s.SamePrivileged v → body x s v = .next (u, e) → s.SamePrivileged u) : s.SamePrivileged t :=
  instruction_samePrivileged (Access.guarded_inv h) hb

/-! The bodies of the loads and stores. -/

theorem Access.load_samePrivileged (hw : s.SamePrivileged w) (h : x.load s w = .next (u, e)) : s.SamePrivileged u := by
  obtain ⟨-, h⟩ := refusedIf_inv h
  split at h
  · cases h; exact hw.advance x s
  · obtain ⟨y, hy, h⟩ := andThen_inv h
    cases h; exact (hw.advance x s).loadMemory hy

theorem Access.store_samePrivileged (hw : s.SamePrivileged w) (h : x.store s w = .next (u, e)) : s.SamePrivileged u := by
  obtain ⟨low, h⟩ := withStoredLow_inv h
  split at h
  · cases h; exact hw.advance x s
  · obtain ⟨y, hy, h⟩ := andThen_inv h
    cases h; exact (hw.advance x s).storeMemory hy

theorem Access.stackLoad_samePrivileged (hw : s.SamePrivileged w) (h : x.stackLoad s w = .next (u, e)) : s.SamePrivileged u := by
  obtain ⟨-, h⟩ := refusedIf_inv h
  split at h
  · cases h; exact hw.advance x s
  · obtain ⟨⟨v, y⟩, hy, h⟩ := andThen_inv h
    cases h; exact ((hw.stackRead hy).advance x s).writeSlot _ _

theorem Access.stackStore_samePrivileged (hw : s.SamePrivileged w) (h : x.stackStore s w = .next (u, e)) : s.SamePrivileged u := by
  unfold Access.stackStore at h
  split at h
  · cases h; exact hw.advance x s
  · obtain ⟨y, hy, h⟩ := andThen_inv h
    cases h; exact (hw.advance x s).stackWrite hy

theorem loadIoDis_samePrivileged (h : loadIoDis len double rd rs dis s = .next t) : s.SamePrivileged t :=
  instruction_samePrivileged h fun v u e hv hu => by
    obtain ⟨-, hu⟩ := refusedIf_inv hu
    split at hu
    · cases hu; exact hv
    · obtain ⟨y, hy, hu⟩ := andThen_inv hu
      cases hu; exact hv.loadIo hy

theorem loadIoAbs_samePrivileged (h : loadIoAbs len double rs dis s = .next t) : s.SamePrivileged t :=
  instruction_samePrivileged h fun v u e hv hu => by
    obtain ⟨-, hu⟩ := refusedIf_inv hu
    obtain ⟨y, hy, hu⟩ := andThen_inv hu
    cases hu; exact hv.loadIo hy

theorem storeIoDis_samePrivileged (h : storeIoDis len double rd rs dis s = .next t) : s.SamePrivileged t :=
  instruction_samePrivileged h fun v u e hv hu => by
    obtain ⟨low, hu⟩ := withStoredLow_inv hu
    split at hu
    · cases hu; exact hv
    · obtain ⟨y, hy, hu⟩ := andThen_inv hu
      cases hu; exact hv.storeIo hy

theorem storeIoAbs_samePrivileged (h : storeIoAbs len double rs dis s = .next t) : s.SamePrivileged t :=
  instruction_samePrivileged h fun v u e hv hu => by
    obtain ⟨low, hu⟩ := withStoredLow_inv hu
    obtain ⟨y, hy, hu⟩ := andThen_inv hu
    cases hu; exact hv.storeIo hy

theorem exec_ioLoad_samePrivileged {i : Instr} (hi : i.ioLoadForm = some x) (h : exec i s = .next t) : s.SamePrivileged t := by
  cases i with
  | ldwIod | lddIod => dsimp only [exec] at h; exact loadIoDis_samePrivileged h
  | ldwIoa | lddIoa => dsimp only [exec] at h; exact loadIoAbs_samePrivileged h
  | _ => cases hi

theorem exec_ioStore_samePrivileged {i : Instr} (hi : i.ioStoreForm = some x) (h : exec i s = .next t) : s.SamePrivileged t := by
  cases i with
  | stwIod | stdIod => dsimp only [exec] at h; exact storeIoDis_samePrivileged h
  | stwIoa | stdIoa => dsimp only [exec] at h; exact storeIoAbs_samePrivileged h
  | _ => cases hi

/-- No load or store writes a privileged register, in any state. -/
theorem exec_access_samePrivileged {i : Instr} (hi : i.accessesMemory = true) (h : exec i s = .next t) : s.SamePrivileged t := by
  obtain ⟨x, hx⟩ | ⟨x, hx⟩ | ⟨x, hx⟩ | ⟨x, hx⟩ | ⟨rd, rs, dis, rfl⟩ | ⟨rd, rs, dis, rfl⟩ := accessesMemory_cases hi
  · rw [exec_load hx] at h
    exact Access.run_samePrivileged h fun _ _ _ => Access.load_samePrivileged
  · rw [exec_store hx] at h
    exact Access.run_samePrivileged h fun _ _ _ => Access.store_samePrivileged
  · exact exec_ioLoad_samePrivileged hx h
  · exact exec_ioStore_samePrivileged hx h
  · rw [exec_ldwS_eq] at h
    exact Access.run_samePrivileged h fun _ _ _ => Access.stackLoad_samePrivileged
  · rw [exec_stwS_eq] at h
    exact Access.run_samePrivileged h fun _ _ _ => Access.stackStore_samePrivileged

theorem frame_samePrivileged (h : execFrame ld ls s = .next t) : s.SamePrivileged t :=
  instruction_samePrivileged h fun v u e hv hu => by
    obtain ⟨y, hy, hu⟩ := andThen_inv hu
    cases hu; exact (hv.of_frame rfl).push hy

theorem ret_samePrivileged (h : execRet rs s = .next t) : s.SamePrivileged t :=
  instruction_samePrivileged h fun v u e hv hu => by
    obtain ⟨rsf, -, hu⟩ := withFollower_inv hu
    obtain ⟨y, hy, hu⟩ := andThen_inv hu
    cases hu; exact (hv.of_frame rfl).pull hy

end

/-! ### A move with H = 1 in user state (41 R243) -/

/-- The source of a move: all that reading it may change is the number of free values used. -/
def readsOnly (read : State → Out (Word × State)) : Prop := ∀ v x t, read v = .next (x, t) → t = v ∨ t = v.drawn 1

theorem readAnyHigh_readsOnly (rs : Reg) : readsOnly fun w => w.readAnyHigh rs := by
  intro v x t h
  cases rs with
  | l c => cases h; exact .inl rfl
  | g c =>
    replace h : v.readHigh c = .next (x, t) := h
    unfold State.readHigh at h
    split at h <;> cases h
    case h_3 | h_4 | h_5 | h_6 | h_10 => exact .inr rfl
    all_goals exact .inl rfl

/-- A move to a high global register writes nothing but the flags, one to a local register that register. -/
theorem moveHigh_changes_user {len : Nat} {rd : Reg} {s t : State} {read : State → Out (Word × State)} (hread : readsOnly read)
    (hs : s.sr.s = false) (h : moveHigh len rd s read = .next t) : ∃ w, .sr ∉ w ∧ s.EndsChanging w t := by
  cases rd with
  | l c =>
    refine ⟨[.loc c.toNat], by simp, instruction_changes h fun r v u e hu => ?_⟩
    obtain ⟨⟨x, y⟩, hy, hu⟩ := andThen_inv hu
    cases hu
    have hsource : v.ChangesOnly [.loc c.toNat] y := by
      rcases hread v x y hy with rfl | rfl <;> exact .of_status rfl
    have hflags (z : State) (f : Flags) : z.ChangesOnly [.loc c.toNat] (z.setFlags f) := .of_status rfl
    exact ((hsource.trans (drawn_changesOnly y 1 _)).trans (State.writeLocal_changesOnly _ _ (List.mem_singleton.mpr rfl))).trans (hflags _ _)
  | g c =>
    refine ⟨[], by simp, ?_⟩
    rw [moveHigh_user hs (runs_of_frameRefusal (instruction_inv h).1)] at h
    exact ⟨_, .inr h, s.underway_changesOnly ..⟩

theorem isMove_cases {i : Instr} (h : i.isMove = true) : (∃ rd rs, i = .mov rd rs) ∨ ∃ rd imm, i = .movi rd imm := by
  unfold Instr.isMove at h
  split at h
  · exact .inl ⟨_, _, rfl⟩
  · exact .inr ⟨_, _, rfl⟩
  · cases h

/-- The two moves are the moves with H = 1 there. -/
theorem exec_move_changes_user {i : Instr} {s t : State} (hi : i.isMove = true) (hh : s.sr.h = true) (hs : s.sr.s = false)
    (h : exec i s = .next t) : ∃ w, .sr ∉ w ∧ s.EndsChanging w t := by
  obtain ⟨rd, rs, rfl⟩ | ⟨rd, imm, rfl⟩ := isMove_cases hi
  · rw [exec_mov_high hh] at h
    exact moveHigh_changes_user (readAnyHigh_readsOnly rs) hs h
  · rw [exec_movi_high hh] at h
    exact moveHigh_changes_user (fun v x t hv => by cases hv; exact .inl rfl) hs h

theorem ne_move_of_not_isMove {i : Instr} (h : i.isMove = false) : (∀ rd rs, i ≠ .mov rd rs) ∧ ∀ rd imm, i ≠ .movi rd imm :=
  ⟨by rintro _ _ rfl; contradiction, by rintro _ _ rfl; contradiction⟩

/-- No instruction executed in user state writes a privileged register. -/
theorem exec_samePrivileged_user {i : Instr} {s t : State} (hs : s.sr.s = false) (h : exec i s = .next t) : s.SamePrivileged t := by
  by_cases hm : i.accessesMemory = true
  · exact exec_access_samePrivileged hm h
  by_cases hhigh : s.sr.h = true ∧ i.isMove = true
  · obtain ⟨w, -, hw⟩ := exec_move_changes_user hhigh.2 hhigh.1 hs h
    exact hw.sameOutside.privileged
  by_cases hf : ∃ ld ls, i = .frame ld ls
  · obtain ⟨ld, ls, rfl⟩ := hf
    exact frame_samePrivileged h
  by_cases hr : ∃ rs, i = .ret rs
  · obtain ⟨rs, rfl⟩ := hr
    exact ret_samePrivileged h
  · exact (registerInstructionsFrame i s t (Bool.eq_false_iff.mpr hm) (fun ld ls hi => hf ⟨ld, ls, hi⟩) (fun rs hi => hr ⟨rs, hi⟩)
      (fun hh => ne_move_of_not_isMove (Bool.eq_false_iff.mpr fun hi => hhigh ⟨hh, hi⟩)) h).privileged

/-! ### S and L (60 R502 (b), R503; 10_state R38) -/

/-- `t` is at an entry of the table of 64, in supervisor state with L set (60 R503). -/
structure State.AtEntry (t : State) : Prop where
  supervisor : t.sr.s = true
  locked : t.sr.l = true
  entry : ∃ n e, trapEntry t.bus.mcr n = .next e ∧ t.pc = evenAddress e

/-- `t` is in user state, and has not L set where `s` has not. -/
structure State.StaysUser (s t : State) : Prop where
  user : t.sr.s = false
  unlocked : s.sr.l = false → t.sr.l = false

/-- What an instruction begun in user state at `s` may come to. -/
def State.Confined (s t : State) : Prop := s.StaysUser t ∨ t.AtEntry

theorem raises_atEntry {s u t : State} (h : s.raises u = .next t) : t.AtEntry := by
  obtain ⟨e, he, rfl⟩ := takeException_inv h
  exact ⟨rfl, rfl, _, e, he, rfl⟩

theorem enterTrap_atEntry {s : State} {n : BitVec 6} {e : Word} (old : StatusReg) (h : trapEntry s.bus.mcr n = .next e) :
    (s.enterTrap e old).AtEntry := ⟨rfl, rfl, n, e, h, rfl⟩

section

variable {s t u v : State}

/-- A state with the same S and L. -/
theorem State.StaysUser.of_sr (h : s.StaysUser t) (hs : u.sr.s = t.sr.s) (hl : u.sr.l = t.sr.l) : s.StaysUser u :=
  ⟨hs.trans h.user, fun h0 => hl.trans (h.unlocked h0)⟩

theorem State.StaysUser.of_changesOnly {w : List Slot} (h : s.StaysUser t) (hw : .sr ∉ w) (hu : t.ChangesOnly w u) : s.StaysUser u :=
  h.of_sr hu.supervisor (hu.low hw).1

theorem State.Confined.settle (h : s.Confined u) (d : Delay) : s.Confined (u.settle d) := by
  rcases h with h | ⟨hs, hl, n, e, he, hpc⟩
  · exact .inl (h.of_sr (State.settle_sr_s ..) (State.settle_sr_l ..))
  · refine .inr ⟨(State.settle_sr_s ..).trans hs, (State.settle_sr_l ..).trans hl, n, e, ?_, ?_⟩
    · rwa [State.settle_bus]
    · rwa [State.settle_pc]

theorem endsChanging_confined {w : List Slot} (hs : s.sr.s = false) (hw : .sr ∉ w) (h : s.EndsChanging w t) : s.Confined t := by
  obtain ⟨u, rfl | he, hu⟩ := h
  · exact State.Confined.settle (.inl (.of_changesOnly ⟨hs, id⟩ hw hu)) _
  · exact .inr (raises_atEntry he)

/-! #### Results: what reaches the SR with L set is a Privilege Error (41 R244) -/

variable {rd rs : Reg} {x hi lo : Word} {f : Flags}

theorem State.StaysUser.writeSr (h : s.StaysUser v) (he : (v.writeSr x).2 = false) : s.StaysUser (v.writeSr x).1 := by
  refine ⟨h.user, fun hl => ?_⟩
  have hfault : (!v.sr.s && !v.sr.l && x.getLsbD 15) = false := he
  rwa [h.user, h.unlocked hl] at hfault

theorem State.StaysUser.writeResult (h : s.StaysUser v) (hu : v.writeResult rd x f = .next (u, false)) : s.StaysUser u := by
  by_cases hr : regSlot rd = .sr
  · cases regSlot_eq_sr hr
    obtain ⟨rfl, he⟩ := Prod.mk.inj (Host.Outcome.next.inj hu)
    exact h.writeSr he
  · exact h.of_changesOnly (w := [regSlot rd]) (by simpa using Ne.symm hr) (writeResult_changesOnly hu (List.mem_singleton.mpr rfl))

theorem State.StaysUser.writeOrBranch (h : s.StaysUser v) (hu : v.writeOrBranch rd x f = .next (u, false)) : s.StaysUser u := by
  unfold State.writeOrBranch at hu
  split at hu
  · cases hu; exact h.of_sr rfl rfl
  · exact h.writeResult hu

theorem State.StaysUser.writePair (h : s.StaysUser v) (hu : v.writePair rd hi lo f = .next (u, false)) : s.StaysUser u := by
  obtain ⟨rdf, hf, hu⟩ := withFollower_inv hu
  obtain ⟨⟨y, e⟩, hy, hu⟩ := andThen_inv hu
  cases hu
  have hsr : rdf ≠ .sr := by
    rintro rfl
    cases regSlot_pc (followSlot_sr hf); cases hy
  have hlow : (y.writeSlot lo rdf).sr = y.sr := State.writeSlot_sr y lo hsr
  exact (h.writeResult hy).of_sr (by rw [hlow]) (by rw [hlow])

theorem State.StaysUser.drawn (h : s.StaysUser v) (k : Nat) : s.StaysUser (v.drawn k) := h.of_sr rfl rfl

end

section

variable {len k : Nat} {g b : Bool} {s t : State} {rd rs : Reg} {ld ls : BitVec 4}

/-- What an instruction may come to is what its body does, or the entry of the error exception it raises. -/
theorem instruction_confined {body : State → State → Out (State × Bool)} (hs : s.sr.s = false) (h : instruction len g b s body = .next t)
    (hb : ∀ v u, s.StaysUser v → body (s.begin len) v = .next (u, false) → s.Confined u) : s.Confined t := by
  obtain ⟨-, u, e, hu, ⟨rfl, rfl⟩ | ⟨-, he⟩⟩ := instruction_inv h
  · exact (hb _ u (.of_changesOnly ⟨hs, id⟩ List.not_mem_nil (s.underway_changesOnly ..)) hu).settle _
  · exact .inr (raises_atEntry he)

theorem compute_confined {f : State → AluResult} (hs : s.sr.s = false) (h : compute len g rd k s f = .next t) : s.Confined t :=
  instruction_confined hs h fun v u hv hu => by
    obtain ⟨⟨y, e⟩, hy, hu⟩ := andThen_inv hu
    obtain ⟨rfl, he⟩ := Prod.mk.inj (Host.Outcome.next.inj hu)
    obtain ⟨rfl, -⟩ := Bool.or_eq_false_iff.mp he
    exact .inl ((hv.drawn k).writeResult hy)

theorem logical_confined {f : State → Word} (hs : s.sr.s = false) (h : logical len g rd s f = .next t) : s.Confined t := compute_confined hs h

theorem setIf_confined {cond : Cond} {yes : Word} (hs : s.sr.s = false) (h : setIf cond yes rd s = .next t) : s.Confined t :=
  compute_confined hs h

theorem indexMove_confined {lim : Lim} (hs : s.sr.s = false) (h : indexMove k rd rs lim s = .next t) : s.Confined t := compute_confined hs h

theorem indexScale_confined {lim : Lim} (hs : s.sr.s = false) (h : indexScale k rd rs lim s = .next t) : s.Confined t := compute_confined hs h

theorem computeOrBranch_confined {f : State → AluResult} (hs : s.sr.s = false) (h : computeOrBranch len g rd k s f = .next t) :
    s.Confined t :=
  instruction_confined hs h fun _ _ hv hu => .inl ((hv.drawn k).writeOrBranch hu)

theorem computePair_confined {f : State → Slot → AluPair} (hs : s.sr.s = false) (h : computePair g rd k s f = .next t) : s.Confined t :=
  instruction_confined hs h fun v u hv hu => by
    obtain ⟨rdf, -, hu⟩ := withFollower_inv hu
    obtain ⟨⟨y, e⟩, hy, hu⟩ := andThen_inv hu
    obtain ⟨rfl, he⟩ := Prod.mk.inj (Host.Outcome.next.inj hu)
    obtain ⟨rfl, -⟩ := Bool.or_eq_false_iff.mp he
    exact .inl ((hv.drawn k).writePair hy)

theorem anySingle_confined {f : State → Flags} (hs : s.sr.s = false) (h : anySingle rd rs s f = .next t) : s.Confined t :=
  instruction_confined hs h fun _ _ hv hu => .inl ((hv.drawn 2).writeResult hu)

theorem anyPair_confined {f : State → Flags} (hs : s.sr.s = false) (h : anyPair rd rs s f = .next t) : s.Confined t :=
  instruction_confined hs h fun _ _ hv hu => .inl ((hv.drawn 3).writePair hu)

theorem mul_confined (hs : s.sr.s = false) (h : execMul rd rs s = .next t) : s.Confined t := by
  unfold execMul at h
  split at h
  · exact anySingle_confined hs h
  · exact compute_confined hs h

theorem anyOrPair_confined {c : Bool} {f : State → Flags} {f' : State → Slot → AluPair} (hs : s.sr.s = false)
    (h : (if c then anyPair rd rs s f else computePair g rd k s f') = .next t) : s.Confined t := by
  split at h
  · exact anyPair_confined hs h
  · exact computePair_confined hs h

theorem movd_confined (hs : s.sr.s = false) (h : execMovd rd rs s = .next t) : s.Confined t := by
  unfold execMovd at h
  split at h
  · exact computePair_confined hs h
  · refine instruction_confined hs h fun v u hv hu => ?_
    obtain ⟨rsf, -, hu⟩ := withFollower_inv hu
    exact .inl ((hv.drawn 1).writePair hu)

theorem mov_confined (hh : s.sr.h = false) (hs : s.sr.s = false) (h : execMov rd rs s = .next t) : s.Confined t := by
  unfold execMov at h; rw [if_neg (by simp [hh])] at h
  exact computeOrBranch_confined hs h

theorem movi_confined {imm : Imm} (hh : s.sr.h = false) (hs : s.sr.s = false) (h : execMovi rd imm s = .next t) : s.Confined t := by
  unfold execMovi at h; rw [if_neg (by simp [hh])] at h
  exact computeOrBranch_confined hs h

/-! #### Instructions without a result -/

theorem computeFlags_confined {f : State → Flags} (hs : s.sr.s = false) (h : computeFlags len g s f = .next t) : s.Confined t :=
  instruction_confined hs h fun _ _ hv hu => by cases hu; exact .inl (hv.of_sr rfl rfl)

theorem check_confined {f : State → Bool} (hs : s.sr.s = false) (h : check g s f = .next t) : s.Confined t :=
  instruction_confined hs h fun _ _ hv hu => by
    obtain ⟨rfl, -⟩ := Prod.mk.inj (Host.Outcome.next.inj hu)
    exact .inl hv

theorem dsp_confined {f : DspIn → DspOut} (hs : s.sr.s = false) (h : dsp ld ls b s f = .next t) : s.Confined t :=
  instruction_confined hs h fun _ _ hv hu => by cases hu; exact .inl (hv.of_sr rfl rfl)

theorem fetch_confined {k : BitVec 4} (hs : s.sr.s = false) (h : execFetch k s = .next t) : s.Confined t :=
  instruction_confined hs h fun _ _ hv hu => by cases hu; exact .inl hv

theorem branch_confined {cond : Cond} {rel : Rel} (hs : s.sr.s = false) (h : branch cond rel s = .next t) : s.Confined t :=
  instruction_confined hs h fun _ _ hv hu => by split at hu <;> cases hu <;> exact .inl (hv.of_sr rfl rfl)

theorem delayedBranch_confined {cond : Cond} {rel : Rel} (hs : s.sr.s = false) (h : delayedBranch cond rel s = .next t) : s.Confined t := by
  unfold delayedBranch misplacedBranch at h
  split at h <;>
    exact instruction_confined hs h fun _ _ hv hu => by split at hu <;> cases hu <;> exact .inl (hv.of_sr rfl rfl)

theorem call_confined {const : Const} (hs : s.sr.s = false) (h : execCall ld rs const s = .next t) : s.Confined t :=
  instruction_confined hs h fun _ _ hv hu => by cases hu; exact .inl (hv.of_sr rfl rfl)

/-- A trap taken is an entry of the table by itself (45 R367). -/
theorem trapIf_confined {cond : Cond} {n : BitVec 6} (hs : s.sr.s = false) (h : trapIf cond n s = .next t) : s.Confined t :=
  instruction_confined hs h fun v u hv hu => by
    split at hu
    · obtain ⟨e, he, hu⟩ := andThen_inv hu
      cases hu; exact .inr (enterTrap_atEntry _ he)
    · cases hu; exact .inl hv

theorem push_sr {k : Nat} {s t : State} (h : s.push k = .next t) : t.sr = s.sr := by
  induction k generalizing s with
  | zero => cases h; rfl
  | succ k ih =>
    obtain ⟨t1, h1, h⟩ := andThen_inv h
    have hsr := memWrite_sr h1
    exact (ih h).trans hsr

theorem pull_sr {k : Nat} {s t : State} (h : s.pull k = .next t) : t.sr = s.sr := by
  induction k generalizing s with
  | zero => cases h; rfl
  | succ k ih =>
    obtain ⟨⟨v, t1⟩, h1, h⟩ := andThen_inv h
    have hsr := memRead_sr h1
    exact (ih h).trans hsr

theorem frame_confined (hs : s.sr.s = false) (h : execFrame ld ls s = .next t) : s.Confined t :=
  instruction_confined hs h fun v u hv hu => by
    obtain ⟨y, hy, hu⟩ := andThen_inv hu
    obtain ⟨rfl, -⟩ := Prod.mk.inj (Host.Outcome.next.inj hu)
    have hsr := push_sr hy
    exact .inl (hv.of_sr (by rw [hsr]) (by rw [hsr]))

/-- The Privilege Error of a Return is raised wherever it would leave user state or set L in it (45 R381). -/
theorem staysUser_of_returnFault {u : State} {old : StatusReg} (hs : old.s = false) (hl : old.l = s.sr.l) (h : returnFault old u.sr = false) :
    s.StaysUser u := by
  simp only [returnFault, hs, hl, Bool.not_false, Bool.true_and, Bool.or_eq_false_iff] at h
  obtain ⟨huser, hlock⟩ := h
  exact ⟨huser, fun h0 => by simpa [huser, h0] using hlock⟩

theorem ret_confined (hs : s.sr.s = false) (h : execRet rs s = .next t) : s.Confined t :=
  instruction_confined hs h fun v u hv hu => by
    obtain ⟨rsf, -, hu⟩ := withFollower_inv hu
    obtain ⟨y, hy, hu⟩ := andThen_inv hu
    obtain ⟨rfl, hfault⟩ := Prod.mk.inj (Host.Outcome.next.inj hu)
    rw [← pull_sr hy, State.begin_sr] at hfault
    exact .inl (staysUser_of_returnFault ((State.srDuring_s ..).trans hs) (State.srDuring_l ..) hfault)

/-- A load or store leaves S and L, before the error exception that it may raise. -/
theorem exec_access_confined {i : Instr} (hi : i.accessesMemory = true) (hs : s.sr.s = false) (h : exec i s = .next t) : s.Confined t := by
  obtain ⟨-, u, rfl | he, hu⟩ := memoryInstructionsKeepTheFlags i s t hi h
  · exact State.Confined.settle (.inl ⟨by rw [hu]; exact hs, fun hl => by rw [hu]; exact hl⟩) _
  · exact .inr (raises_atEntry he)

end

/-- An instruction with a result register, by its shape. -/
theorem exec_result_confined {i : Instr} {rd : Reg} {s t : State} (hd : i.dest = some rd) (hh : s.sr.h = true → i.isMove = false)
    (hs : s.sr.s = false) (h : exec i s = .next t) : s.Confined t := by
  have hlow (hm : i.isMove = true) : s.sr.h = false := Bool.eq_false_iff.mpr fun hc => Bool.eq_false_iff.mp (hh hc) hm
  cases i with
  | mov => dsimp only [exec] at h; exact mov_confined (hlow rfl) hs h
  | movi => dsimp only [exec] at h; exact movi_confined (hlow rfl) hs h
  | add | addi | addiCz | sum | sub => dsimp only [exec] at h; exact computeOrBranch_confined hs h
  | adds | addc | addsi | addsiCz | sums | subs | subc | neg | negs | shri | sari | shli | shl | sar | shr | rol | testlz | setadr =>
    dsimp only [exec] at h; exact compute_confined hs h
  | and | andn | or | xor | not | andni | ori | xori | mask => dsimp only [exec] at h; exact logical_confined hs h
  | xm1 | xm2 | xm4 | xm8 => dsimp only [exec] at h; exact indexMove_confined hs h
  | xx1 | xx2 | xx4 | xx8 => dsimp only [exec] at h; exact indexScale_confined hs h
  | set1 | set0 | setle | setgt | setlt | setge | setse | setht | setst | sethe | sete | setne | setv | setnv
  | set1M | setleM | setgtM | setltM | setgeM | setseM | sethtM | setstM | setheM | seteM | setneM | setvM | setnvM =>
    dsimp only [exec] at h; exact setIf_confined hs h
  | mul => dsimp only [exec] at h; exact mul_confined hs h
  | muls | mulu | divs | divu => dsimp only [exec] at h; exact anyOrPair_confined hs h
  | movd => dsimp only [exec] at h; exact movd_confined hs h
  | shldi | sardi | shrdi => dsimp only [exec] at h; exact endsChanging_confined hs (by simp [pairSlots_local]) (shiftPair_changes h)
  | shld | sard | shrd => dsimp only [exec] at h; exact endsChanging_confined hs (by simp [pairSlots_local]) (anyOrShift_changes h)
  | _ => cases hd

/-- Any other instruction but the loads and stores and the Software instructions, by its kind. -/
theorem exec_no_result_confined {i : Instr} {s t : State} (hd : i.dest = none) (hm : i.accessesMemory = false) (hi : i.softwareForm = none)
    (hs : s.sr.s = false) (h : exec i s = .next t) : s.Confined t := by
  cases i with
  | chk | chkz | nop => dsimp only [exec] at h; exact check_confined hs h
  | cmp | cmpi | cmpb | cmpbi | cmpbiAnybz => dsimp only [exec] at h; exact computeFlags_confined hs h
  | bv | bnv | be | bne | bc | bnc | bse | bht | bn | bnn | ble | bgt | br => dsimp only [exec] at h; exact branch_confined hs h
  | dbv | dbnv | dbe | dbne | dbc | dbnc | dbse | dbht | dbn | dbnn | dble | dbgt | dbr =>
    dsimp only [exec] at h; exact delayedBranch_confined hs h
  | traple | trapgt | traplt | trapge | trapse | trapht | trapst | traphe | trape | trapne | trapv | trap =>
    dsimp only [exec] at h; exact trapIf_confined hs h
  | emul | emulu | emuls | emac | emacd | emsub | emsubd | ehmac | ehmacd | ehcmuld | ehcmacd | ehcsumd | ehcfftd | ehcfftsd =>
    dsimp only [exec] at h; exact dsp_confined hs h
  | call => dsimp only [exec] at h; exact call_confined hs h
  | frame => dsimp only [exec] at h; exact frame_confined hs h
  | ret => dsimp only [exec] at h; exact ret_confined hs h
  | fetch => dsimp only [exec] at h; exact fetch_confined hs h
  | _ => cases hm <;> cases hd <;> cases hi

/-- No instruction but a Software instruction goes further in user state than `Confined` says. -/
theorem exec_confined {i : Instr} {s t : State} (hi : i.softwareForm = none) (hs : s.sr.s = false) (h : exec i s = .next t) :
    s.Confined t := by
  by_cases hm : i.accessesMemory = true
  · exact exec_access_confined hm hs h
  by_cases hhigh : s.sr.h = true ∧ i.isMove = true
  · obtain ⟨w, hw, hc⟩ := exec_move_changes_user hhigh.2 hhigh.1 hs h
    exact endsChanging_confined hs hw hc
  cases hd : i.dest with
  | some rd => exact exec_result_confined hd (fun hh => Bool.eq_false_iff.mpr fun hv => hhigh ⟨hh, hv⟩) hs h
  | none => exact exec_no_result_confined hd (Bool.eq_false_iff.mpr hm) hi hs h

/-! ### The statements -/

/-- A Software instruction leaves S (47 R430). -/
theorem exec_software_user {i : Instr} {p : BitVec 4 × BitVec 4 × BitVec 4} {s t : State} (hi : i.softwareForm = some p) (hs : s.sr.s = false)
    (h : exec i s = .next t) : t.sr.s = false := by
  obtain ⟨op, ld, ls⟩ := p
  obtain ⟨hslot, htaken, hreserved⟩ := softwareInstructions i op ld ls s hi
  by_cases hd : s.delay = .none
  · cases he : softwareEntry s.bus.mcr op with
    | next e =>
      rw [htaken hd e he] at h
      cases h
      exact (underway_sr_s s 1 0 s.flags).trans hs
    | refused r => rw [hreserved hd r he] at h; cases h
    | fault r => cases r
  · rw [hslot hd] at h; cases h

/-- Settles O17: what is not confined to user state is at an entry of the table, whose map is that of the MCR still. -/
theorem userStateLeftByEntriesOnly : Obligations.UserStateLeftByEntriesOnly := by
  intro i s t hs h ht
  cases hi : i.softwareForm with
  | some p => rw [exec_software_user hi hs h] at ht; cases ht
  | none =>
    obtain hstays | hentry := exec_confined hi hs h
    · rw [hstays.user] at ht; cases ht
    · obtain ⟨n, e, he, hpc⟩ := hentry.entry
      rw [(exec_samePrivileged_user hs h).mcr] at he
      exact ⟨hentry.locked, n, e, he, hpc⟩

/-- Settles O18: the registers by `SamePrivileged`, L by `Confined`. -/
theorem userStateCannotConfigure : Obligations.UserStateCannotConfigure := by
  intro i s t hs h
  obtain ⟨hub, hbcr, hmcr, htimer, hio3, hfcr⟩ := exec_samePrivileged_user hs h
  refine ⟨hub, hbcr, hmcr, htimer, hio3, hfcr, fun hl ht => ?_⟩
  cases hi : i.softwareForm with
  | some p => exact .inr rfl
  | none =>
    obtain hstays | hentry := exec_confined hi hs h
    · rw [hstays.unlocked hl] at ht; cases ht
    · exact .inl hentry.supervisor

end Sys2Proof.Machine


/-! ## Entries, exceptions and the boundary (60_exceptions R461 to R481, 47_software_floating_point R431) -/

namespace Sys2Proof.Machine

/-! ### The entry tables (60 R465, R466, R468; 47 R431) -/

theorem getLsbD_entryTableMap (mcr : Word) : mcr.getLsbD 14 = (entryTableMap mcr).getLsbD 2 := by
  rw [entryTableMap, BitVec.getLsbD_extractLsb']; rfl

theorem extractLsb'_entryTableMap (mcr : Word) : mcr.extractLsb' 12 2 = (entryTableMap mcr).extractLsb' 0 2 := by
  apply BitVec.eq_of_getLsbD_eq
  intro i hi
  have h3 : i < 3 := by omega
  simp only [entryTableMap, BitVec.getLsbD_extractLsb', Nat.zero_add, hi, h3, decide_true, Bool.true_and]

/-- The map selects MEM0, MEM1, MEM2 or IRAM by its two lower bits where its highest one is 0 (R468). -/
theorem entryTable_mapped {mcr : Word} (h : mcr.getLsbD 14 = false) :
    entryTableMap mcr ≠ 7#3 ∧ entryTableBase mcr = some (mcr.extractLsb' 12 2 ++ 0#30) := by
  rw [getLsbD_entryTableMap] at h
  rw [extractLsb'_entryTableMap, entryTableBase]
  revert h
  generalize entryTableMap mcr = m
  revert m; decide

/-- The other codes are reserved, but for the one of MEM3 (R468). -/
theorem entryTableBase_reserved {mcr : Word} (h : mcr.getLsbD 14 = true) : entryTableBase mcr = none := by
  rw [getLsbD_entryTableMap] at h
  rw [entryTableBase]
  revert h
  generalize entryTableMap mcr = m
  revert m; decide

/-- The addresses of the two tables at the end of MEM3 (R465; 47 R431). -/
theorem mem3_entry_eq (t : BitVec 6) (op : BitVec 4) :
    0xFFFFFF00 + 4 * t.setWidth 32 = 0xFFFFFF#24 ++ t ++ 0#2 ∧ 0xFFFFFE00 + 16 * op.setWidth 32 = 0x7FFFFF#23 ++ 0#1 ++ op ++ 0#4 := by
  constructor
  · revert t; decide
  · revert op; decide

/-- The addresses of the reversed tables at the beginning of an area (R466; 47 R431). -/
theorem reversed_entry_eq (area : BitVec 2) (t : BitVec 6) (op : BitVec 4) :
    area ++ 0#30 + 4 * (63 - t.setWidth 32) = area ++ 0#22 ++ ~~~t ++ 0#2 ∧
      area ++ 0#30 + 0x10C + 16 * (15 - op.setWidth 32) = area ++ 0#21 ++ 1#1 ++ ~~~op ++ 0xC#4 := by
  constructor
  · revert area t; decide
  · revert area op; decide

/-- Settles O12, by the code of the map. -/
theorem entryAddresses : Obligations.EntryAddresses := by
  intro mcr t op
  refine ⟨fun h => ?mem3, fun h => ?reversed, fun h h7 => ?reserved⟩
  case mem3 =>
    rw [← (mem3_entry_eq t op).1, ← (mem3_entry_eq t op).2]
    exact ⟨if_pos h, if_pos h⟩
  case reversed =>
    obtain ⟨h7, hbase⟩ := entryTable_mapped h
    rw [trapEntry, softwareEntry, if_neg h7, if_neg h7, hbase, ← (reversed_entry_eq _ t op).1, ← (reversed_entry_eq _ t op).2]
    exact ⟨rfl, rfl⟩
  case reserved =>
    replace h7 : entryTableMap mcr ≠ 7#3 := h7
    rw [trapEntry, softwareEntry, if_neg h7, if_neg h7, entryTableBase_reserved h]
    exact ⟨rfl, rfl⟩

/-! ### Taking an exception (60 R470, R472, R481) -/

/-- Settles O13: a taken exception is entered from the state it finds. -/
theorem exceptionEntry : Obligations.ExceptionEntry := by
  intro s n e ret interrupt he k
  rw [State.takeException, he, andThen_next, ← returnWord_eq]
  rfl

/-! ### The boundary (60 R480) -/

theorem boundary_nothing {s : State} (h : s.power = .sleep ∨ s.delay ≠ .none ∨ s.callLockout = true) : s.boundary = .next s := if_pos h

/-- Where something may be taken: a condition that L does not block, else the Trace. -/
theorem boundary_taking {s : State} (hp : s.power ≠ .sleep) (hd : s.delay = .none) (hc : s.callLockout = false) :
    s.boundary = s.wakened.asynchronous.getD s.wakened.trace := by
  unfold State.boundary
  rw [if_neg (by simp [hp, hd, hc])]
  cases s.wakened.asynchronous <;> rfl

section

variable {s : State}

theorem asynchronous_eov (hl : s.sr.l = false) (he : s.eovPending = true) :
    s.asynchronous = some (({ s with eovPending := false } : State).takeException 59 s.pc false) := by
  rw [State.asynchronous, hl, he]; rfl

theorem asynchronous_parity (hl : s.sr.l = false) (he : s.eovPending = false) (hp : s.parityPending = true) :
    s.asynchronous = some (({ s with parityPending := false } : State).takeException 58 s.pc false) := by
  rw [State.asynchronous, hl, he, hp]; rfl

theorem asynchronous_interrupt {x : IntSource} (hl : s.sr.l = false) (he : s.eovPending = false) (hp : s.parityPending = false)
    (hx : s.interrupt = some x) : s.asynchronous = some (s.takeException x.trap s.pc true) := by
  rw [State.asynchronous, hl, he, hp, hx]; rfl

theorem asynchronous_none (h : s.sr.l = true ∨ (s.eovPending = false ∧ s.parityPending = false ∧ s.interrupt = none)) :
    s.asynchronous = none := by
  rw [State.asynchronous]
  obtain hl | ⟨he, hp, hx⟩ := h
  · rw [hl]; rfl
  · rw [he, hp, hx]; exact ite_self none

theorem trace_eq (s : State) : s.trace = if s.sr.t = true ∧ s.sr.p = true then s.takeException 57 s.pc false else .next s := by
  rw [State.trace]; exact ite_congr (propext (Bool.and_eq_true_iff)) (fun _ => rfl) fun _ => rfl

end

/-- Settles O14: the wakened state has the conditions of the state itself. -/
theorem boundaryOrder : Obligations.BoundaryOrder := by
  intro s w
  refine ⟨boundary_nothing, fun hpower hd hc => ?_⟩
  have hw : w = s.wakened := rfl
  rw [boundary_taking hpower hd hc, hw]
  refine ⟨fun hl he => ?eov, fun hl he hp => ?parity, fun hl he hp x hx => ?interrupt, fun h => ?trace⟩
  case eov => rw [asynchronous_eov (s := s.wakened) (by simpa) (by simpa), State.wakened_pc, Option.getD_some]
  case parity => rw [asynchronous_parity (s := s.wakened) (by simpa) (by simpa) (by simpa), State.wakened_pc, Option.getD_some]
  case interrupt =>
    rw [asynchronous_interrupt (s := s.wakened) (by simpa) (by simpa) (by simpa) (by simpa), State.wakened_pc, Option.getD_some]
  case trace => rw [asynchronous_none (s := s.wakened) (by simpa using h), Option.getD_none, trace_eq, State.wakened_sr, State.wakened_pc]

/-! ### Interrupt requests (60 R461, R462, R477, R478) -/

/-- Every source is in the order, and it stands there by its priority (R461, R462). -/
theorem intOrder_sorted (fcr : Word) :
    (∀ x, x ∈ intOrder fcr) ∧ (intOrder fcr).Pairwise fun x y => x.priority fcr ≤ y.priority fcr := by
  unfold intOrder IntSource.priority
  generalize fcr.extractLsb' 20 2 = place
  constructor
  · intro x
    cases x <;> revert place <;> decide
  · revert place; decide

/-- The first member of a sorted list with a property comes before every other one with it. -/
theorem rel_of_find?_eq_some {α : Type} {r : α → α → Prop} {p : α → Bool} {l : List α} {x y : α} (hr : ∀ z, r z z) (hl : l.Pairwise r)
    (h : l.find? p = some x) (hy : y ∈ l) (hp : p y = true) : r x y := by
  obtain ⟨-, before, after, rfl, hbefore⟩ := List.find?_eq_some_iff_append.mp h
  obtain ⟨-, hafter, -⟩ := List.pairwise_append.mp hl
  rcases List.mem_append.mp hy with hy | hy
  · have hnot := hbefore y hy
    rw [hp] at hnot; cases hnot
  · rcases List.mem_cons.mp hy with rfl | hy
    · exact hr _
    · exact (List.pairwise_cons.mp hafter).1 y hy

theorem pinRequest_iff (fcr : Word) (mask polarity : Nat) (level : Bool) :
    pinRequest fcr mask polarity level = true ↔ fcr.getLsbD mask = false ∧ level = fcr.getLsbD polarity := by
  simp only [pinRequest, Bool.and_eq_true, Bool.not_eq_true', beq_iff_eq]

theorem io3Standard_iff (s : State) :
    s.io3Standard = true ↔ s.fcr.getLsbD 10 = true ∧ s.fcr.getLsbD 8 = false ∧ s.pins.io3 = s.fcr.getLsbD 9 := by
  rw [State.io3Standard, Bool.and_eq_true, pinRequest_iff]

/-- FCR(13) is the higher bit of the mode (61 R530). -/
theorem io3Mode_high {fcr : Word} (h : fcr.getLsbD 13 = true) : io3Mode fcr = 2 ∨ io3Mode fcr = 3 := by
  have hbit : (io3Mode fcr).getLsbD 1 = true := by rw [io3Mode, BitVec.getLsbD_extractLsb']; exact h
  revert hbit
  generalize io3Mode fcr = mode
  revert mode; decide

theorem io3Request_high {s : State} (h : s.fcr.getLsbD 13 = true) : s.io3Request = s.io3Standard := by
  unfold State.io3Request
  rcases io3Mode_high h with hm | hm <;> rw [hm] <;> rfl

theorem io3Request_timing {s : State} (h : io3Mode s.fcr = 1) : s.io3Request = (!s.fcr.getLsbD 8 && (s.io3.eventFlag || s.io3.equalFlag)) := by
  unfold State.io3Request; rw [h]; rfl

theorem io3Request_timer {s : State} (h : io3Mode s.fcr = 0) : s.io3Request = (s.io3.equalFlag || s.io3Standard) := by
  unfold State.io3Request; rw [h]; rfl

/-- Settles O15: the interrupt is the first active request in the order of the priorities; each request is its conditions. -/
theorem interruptRequests : Obligations.InterruptRequests := by
  intro s
  obtain ⟨hmem, hsorted⟩ := intOrder_sorted s.fcr
  refine ⟨fun x hx => ⟨List.find?_some hx, fun y hy => ?first⟩,
    fun hnone y => ?none, pinRequest_iff .., pinRequest_iff .., pinRequest_iff .., pinRequest_iff .., ?io1, ?io2, ?timer, fun h => ?high,
    fun h => ?timing, fun h => ?timerMode⟩
  case first =>
    exact rel_of_find?_eq_some (r := fun x y => x.priority s.fcr ≤ y.priority s.fcr) (fun _ => Nat.le_refl _) hsorted hx (hmem y) hy
  case none => exact Bool.eq_false_iff.mpr (List.find?_eq_none.mp hnone y (hmem y))
  case io1 | io2 => rw [State.requests, Bool.and_eq_true, pinRequest_iff]
  case timer => simp only [State.requests, State.timerRequest, Bool.and_eq_true, Bool.not_eq_true']
  case high => rw [State.requests, io3Request_high h, io3Standard_iff]
  case timing => rw [State.requests, io3Request_timing h]; simp only [Bool.and_eq_true, Bool.not_eq_true', Bool.or_eq_true]
  case timerMode => rw [State.requests, io3Request_timer h, Bool.or_eq_true, io3Standard_iff]

end Sys2Proof.Machine


/-! ## The timer, the IO3 unit, power-down and sleep (61_timer_power_bus R521 to R544) -/

namespace Sys2Proof.Machine

/-! ### The timer (R521, R522) -/

theorem Timer.cycle_within {t : Timer} (h : t.prescaler + 1 < (t.tpr.extractLsb' 16 8).toNat + 2) :
    t.cycle = { t with prescaler := t.prescaler + 1 } := if_pos h

/-- The end of a time unit. -/
theorem Timer.cycle_end {t : Timer} (h : (t.tpr.extractLsb' 16 8).toNat + 2 ≤ t.prescaler + 1) :
    t.cycle = { t with prescaler := 0, tr := t.tr + 1, tpr := t.tprPending.getD t.tpr, tprPending := none } := if_neg (Nat.not_lt.mpr h)

theorem Timer.after_succ (k : Nat) (t : Timer) : Timer.after (k + 1) t = (Timer.after k t).cycle := by
  induction k generalizing t with
  | zero => rfl
  | succ k ih => exact ih t.cycle

/-! ### The IO3 unit (R530 to R535) -/

section

variable {s : State}

theorem io3Sample_input (hm : io3Mode s.fcr = 1) (hd : s.fcr.getLsbD 10 = true) :
    s.io3Sample = { s.io3Input with io3 := { s.io3Input.io3 with equalSeen := false } } := by
  rw [State.io3Sample, hm]; exact if_pos hd

theorem io3Sample_output (hm : io3Mode s.fcr = 1) (hd : s.fcr.getLsbD 10 = false) : s.io3Sample = s.io3Output := by
  rw [State.io3Sample, hm]; exact if_neg (Bool.not_eq_true _ ▸ hd)

theorem io3Sample_interrupt (hm : io3Mode s.fcr = 0) :
    s.io3Sample = { s with io3 := { s.io3 with equalFlag := s.io3.equalFlag || s.wcrEqual, equalSeen := false } } := by
  rw [State.io3Sample, hm]; rfl

/-- The two modes without a flag: the watchdog's and that of a standard interrupt pin. -/
theorem io3Sample_plain (hm : io3Mode s.fcr = 2 ∨ io3Mode s.fcr = 3) : s.io3Sample = { s with io3 := { s.io3 with equalSeen := false } } := by
  rcases hm with hm | hm <;> rw [State.io3Sample, hm] <;> rfl

theorem io3Input_seen (h : s.io3.eventFlag = true) : s.io3Input = s := if_pos h

theorem io3Input_event (h : s.io3.eventFlag = false) (hp : s.pins.io3 = s.fcr.getLsbD 9) :
    s.io3Input = { s with io3 := { s.io3 with eventFlag := true, wcr := s.timer.tr.extractLsb' 0 16 } } := by
  rw [State.io3Input, h, hp, beq_self_eq_true]; rfl

theorem io3Input_noEvent (h : s.io3.eventFlag = false) (hp : s.pins.io3 ≠ s.fcr.getLsbD 9) :
    s.io3Input = { s with io3 := { s.io3 with equalFlag := s.io3.equalFlag || s.wcrEqual } } := by
  rw [State.io3Input, h, beq_eq_false_iff_ne.mpr hp]
  cases he : s.wcrEqual
  · rw [Bool.or_false]; rfl
  · rw [Bool.or_true]; rfl

theorem io3Output_eq (s : State) :
    s.io3Output = { s with
      io3 := { s.io3 with
        equalFlag := s.io3.equalFlag || s.wcrEqual, equalSeen := s.wcrEqual
        toggleLatch := s.io3.toggleLatch ^^ (s.wcrEqual && !s.io3.equalSeen) } } := by
  rw [State.io3Output]
  cases s.wcrEqual
  · rw [Bool.or_false, Bool.false_and, Bool.xor_false]; rfl
  · rw [Bool.or_true, Bool.true_and]
    cases s.io3.equalSeen
    · rw [Bool.not_false, Bool.xor_true]; rfl
    · rw [Bool.not_true, Bool.xor_false]; rfl

theorem io3Input_frame (s : State) : s.io3Input = { s with io3 := s.io3Input.io3 } := by
  unfold State.io3Input
  split
  · rfl
  · split
    · rfl
    · split <;> rfl

/-- What the unit changes is itself. -/
theorem io3Sample_frame (s : State) : s.io3Sample = { s with io3 := s.io3Sample.io3 } := by
  unfold State.io3Sample
  split
  · split
    · rw [io3Input_frame]
    · rw [io3Output_eq]
  · rfl
  · rfl

end

/-! ### The devices over any number of cycles -/

/-- One processor cycle of the timer, and the look of the IO3 unit after it. -/
def State.tick (s : State) : State := ({ s with timer := s.timer.cycle } : State).io3Sample

theorem tick_frame (s : State) : s.tick = { s with timer := s.timer.cycle, io3 := s.tick.io3 } := io3Sample_frame _

theorem tick_plain_io3 {s : State} (hm : io3Mode s.fcr = 2 ∨ io3Mode s.fcr = 3) : s.tick.io3 = { s.io3 with equalSeen := false } := by
  rw [State.tick, io3Sample_plain (s := { s with timer := s.timer.cycle }) hm]

theorem clockCycles_succ (k : Nat) (s : State) :
    s.clockCycles (k + 1) = ((s.tick.clockCycles k).1, s.tick.watchdogDue || (s.tick.clockCycles k).2) := rfl

/-- The last cycle apart. -/
theorem clockCycles_snoc (k : Nat) (s : State) :
    (s.clockCycles (k + 1)).1 = (s.clockCycles k).1.tick ∧
      (s.clockCycles (k + 1)).2 = ((s.clockCycles k).2 || (s.clockCycles k).1.tick.watchdogDue) := by
  induction k generalizing s with
  | zero => exact ⟨rfl, Bool.or_comm ..⟩
  | succ k ih =>
    obtain ⟨hstate, hfired⟩ := ih s.tick
    rw [clockCycles_succ, clockCycles_succ k s, hstate, hfired, Bool.or_assoc]
    exact ⟨rfl, rfl⟩

theorem clock_zero (s : State) : (s.clock 0).1 = s.io3Sample ∧ (s.clock 0).2 = s.io3Sample.watchdogDue := ⟨rfl, Bool.or_false _⟩

theorem clock_succ (s : State) (k : Nat) :
    (s.clock (k + 1)).1 = (s.clock k).1.tick ∧ (s.clock (k + 1)).2 = ((s.clock k).2 || (s.clock k).1.tick.watchdogDue) := by
  obtain ⟨hstate, hfired⟩ := clockCycles_snoc k s.io3Sample
  refine ⟨hstate, ?_⟩
  show (s.io3Sample.watchdogDue || _) = (s.io3Sample.watchdogDue || _ || _)
  rw [hfired, Bool.or_assoc]; rfl

/-- What the devices change is the timer, by its cycles, and the IO3 unit. -/
theorem clock_frame (s : State) (k : Nat) : (s.clock k).1 = { s with timer := Timer.after k s.timer, io3 := (s.clock k).1.io3 } := by
  induction k with
  | zero => exact io3Sample_frame s
  | succ k ih =>
    rw [(clock_succ s k).1, tick_frame, Timer.after_succ]
    rw [ih]

/-- The watchdog fires in no other mode (R527). -/
theorem watchdogDue_other {s : State} (hm : io3Mode s.fcr ≠ 2#2) : s.watchdogDue = false := by
  rw [State.watchdogDue, beq_eq_false_iff_ne.mpr hm, Bool.false_and]

theorem clock_other (s : State) (hm : io3Mode s.fcr ≠ 2#2) (k : Nat) : (s.clock k).2 = false := by
  induction k with
  | zero =>
    rw [(clock_zero s).2]
    exact watchdogDue_other (by rwa [io3Sample_frame])
  | succ k ih =>
    rw [(clock_succ s k).2, ih, Bool.false_or]
    exact watchdogDue_other (by rwa [tick_frame, clock_frame])

/-- In the watchdog mode the unit keeps the WCR. -/
theorem clock_watchdog_io3 (s : State) (hm : io3Mode s.fcr = 2) (k : Nat) : (s.clock k).1.io3 = { s.io3 with equalSeen := false } := by
  induction k with
  | zero => rw [(clock_zero s).1, io3Sample_plain (.inl hm)]
  | succ k ih =>
    have hmode : io3Mode (s.clock k).1.fcr = 2 := by rwa [clock_frame]
    rw [(clock_succ s k).1, tick_plain_io3 (.inl hmode), ih]

theorem clock_watchdog_due (s : State) (hm : io3Mode s.fcr = 2#2) (k : Nat) :
    (s.clock k).1.watchdogDue = true ↔ s.io3.wcr = (Timer.after k s.timer).tr.extractLsb' 0 16 := by
  rw [State.watchdogDue, State.wcrEqual, clock_watchdog_io3 s hm, clock_frame, hm, beq_self_eq_true, Bool.true_and, beq_iff_eq]

theorem clock_watchdog_fired (s : State) (hm : io3Mode s.fcr = 2) (k : Nat) :
    (s.clock k).2 = true ↔ ∃ j, j ≤ k ∧ s.io3.wcr = (Timer.after j s.timer).tr.extractLsb' 0 16 := by
  induction k with
  | zero =>
    rw [(clock_zero s).2, ← (clock_zero s).1, clock_watchdog_due s hm]
    simp only [Nat.le_zero_eq, exists_eq_left]
  | succ k ih =>
    rw [(clock_succ s k).2, Bool.or_eq_true, ih, ← (clock_succ s k).1, clock_watchdog_due s hm]
    simp only [Nat.le_succ_iff, or_and_right, exists_or, exists_eq_left]

theorem elapse_fired {s : State} {k : Nat} (h : (s.clock k).2 = true) : s.elapse k = .next ((s.clock k).1.resetException .watchdog) := if_pos h

theorem elapse_boundary {s : State} {k : Nat} (h : (s.clock k).2 = false) : s.elapse k = (s.clock k).1.boundary := if_neg (by simp [h])

/-! ### Power-down and sleep (R541, R544) -/

section

variable {s : State} {k : Nat}

theorem idle_fired (h : (s.clock k).2 = true) : s.idle k = .next ((s.clock k).1.resetException .watchdog) := if_pos h

theorem idle_stays (h : (s.clock k).2 = false) (hi : (s.clock k).1.interrupt = none) : s.idle k = .next (s.clock k).1 := by
  rw [State.idle, h, hi]; rfl

theorem idle_wakes (h : (s.clock k).2 = false) (hi : (s.clock k).1.interrupt ≠ none) :
    s.idle k = ({ (s.clock k).1 with power := .running } : State).boundary := by
  obtain ⟨x, hx⟩ := Option.ne_none_iff_exists'.mp hi
  rw [State.idle, h, hx]; rfl

theorem step_powerDown (hr : s.input.resetPin = false) (hp : s.power = .powerDown) : step s = s.sense.idle s.input.cycles := by
  have hp' : s.sense.power = .powerDown := hp
  rw [step, hr, hp']; rfl

theorem step_sleep (hr : s.input.resetPin = false) (hp : s.power = .sleep) :
    step s = if s.sense.pinWake then .next (s.sense.resetException .clockDown) else .next s.sense := by
  have hp' : s.sense.power = .sleep := hp
  rw [step, hr, hp']; rfl

theorem io3PinRequest_iff (s : State) :
    s.io3PinRequest = true ↔ s.fcr.getLsbD 10 = true ∧
      ((s.fcr.getLsbD 8 = false ∧ s.pins.io3 = s.fcr.getLsbD 9) ∨
        (io3Mode s.fcr = 1 ∧ s.fcr.getLsbD 8 = false ∧ s.io3.eventFlag = true)) := by
  rw [State.io3PinRequest, Bool.or_eq_true, io3Standard_iff]
  simp only [Bool.and_eq_true, Bool.not_eq_true', beq_iff_eq, and_assoc, ← and_or_left]
  rfl

end

/-- Of the timer and the IO3 unit the EventFlag alone makes a request that ends sleep (log 32). -/
theorem pinWake_of_eventFlag {s : State} (t : Timer) {u : Io3} (hu : u.eventFlag = s.io3.eventFlag) :
    ({ s with timer := t, io3 := u } : State).pinWake = s.pinWake := by
  have hpin : ({ s with timer := t, io3 := u } : State).io3PinRequest = s.io3PinRequest := by
    show (s.io3Standard || (_ && u.eventFlag)) = _
    rw [hu]; rfl
  rw [State.pinWake, hpin]; rfl

/-- Settles O16, clause by clause from what the devices do. -/
theorem timerAndPower : Obligations.TimerAndPower := by
  refine ⟨fun t => ⟨Timer.cycle_within, fun h => ?unit⟩, fun s => ?unitIo3, fun s => ⟨(clock_zero s).1, fun k => (clock_succ s k).1⟩,
    fun s k => ⟨clock_frame s k, fun hm => ⟨clock_watchdog_io3 s hm k, clock_watchdog_fired s hm k⟩, fun hm => clock_other s hm k,
      elapse_fired, elapse_boundary⟩,
    fun s hr hp => ?powerDown, fun s hr hp => ?sleep, fun s => ⟨?wake, fun t u hu => ?wakeOnly⟩⟩
  case unit =>
    rw [Timer.cycle_end h]
    exact ⟨rfl, rfl, rfl, rfl, fun v hv => by rw [hv]; rfl, fun hn => by rw [hn]; rfl⟩
  case unitIo3 =>
    intro mode equal seen
    refine ⟨fun hm hd he => ⟨false, ?captured⟩, fun hm hd he hp => ⟨false, ?event⟩, fun hm hd he hp => ⟨false, ?noEvent⟩,
      fun hm hd => ?output, fun hm => ⟨false, ?timerInterrupt⟩, fun hm => ⟨false, ?plain⟩⟩
    case captured => rw [io3Sample_input hm hd, io3Input_seen he, ← he]
    case event => rw [io3Sample_input hm hd, io3Input_event he hp]
    case noEvent => rw [io3Sample_input hm hd, io3Input_noEvent he hp, ← he]; rfl
    case output =>
      have hsample := (io3Sample_output hm hd).trans (io3Output_eq s)
      exact ⟨⟨equal, hsample⟩, congrArg (·.io3.equalSeen) hsample⟩
    case timerInterrupt => rw [io3Sample_interrupt hm]; rfl
    case plain => rw [io3Sample_plain hm]
  case powerDown =>
    rw [step_powerDown hr hp]
    exact ⟨idle_fired, idle_stays, idle_wakes⟩
  case sleep =>
    rw [step_sleep hr hp]
    exact ⟨fun h => if_pos h, fun h => if_neg (by simp [h])⟩
  case wake =>
    simp only [State.pinWake, State.requests, Bool.or_eq_true, Bool.and_eq_true, pinRequest_iff, io3PinRequest_iff, or_assoc]
    rfl
  case wakeOnly => exact pinWake_of_eventFlag t hu

end Sys2Proof.Machine


/-! ## The encoding: the decoder and the encoder undo one another (30_encoding R131 to R151) -/

namespace Sys2Proof

open Machine

/-! ### The fields of the first half-word (R131 to R138) -/

@[simp] theorem Reg.decode_bank_code (r : Reg) : Reg.decode r.bank r.code = r := by cases r <;> rfl

@[simp] theorem Reg.bank_decode (b : BitVec 1) (c : BitVec 4) : (Reg.decode b c).bank = b := by
  obtain rfl | rfl := BitVec.eq_zero_or_eq_one b <;> rfl

@[simp] theorem Reg.code_decode (b : BitVec 1) (c : BitVec 4) : (Reg.decode b c).code = c := by
  unfold Reg.decode; split <;> rfl

/-- What the formats RR, Rn, Ln, LL and LR are instances of: the OP-code field, bits 9 and 8, and the two codes. -/
def firstHalf (op : BitVec 6) (d s : BitVec 1) (dst src : BitVec 4) : Half := op ++ d ++ s ++ dst ++ src

section
variable (op : BitVec 6) (d s : BitVec 1) (dst src : BitVec 4)

@[simp] theorem opField_firstHalf : opField (firstHalf op d s dst src) = op :=
  BitVec.eq_of_getLsbD_eq fun i hi => by
    simp only [opField, firstHalf, BitVec.getLsbD_append, BitVec.getLsbD_extractLsb']; grind

@[simp] theorem subField_firstHalf : subField (firstHalf op d s dst src) = d ++ s :=
  BitVec.eq_of_getLsbD_eq fun i hi => by
    simp only [subField, firstHalf, BitVec.getLsbD_append, BitVec.getLsbD_extractLsb']; grind

@[simp] theorem dstCode_firstHalf : dstCode (firstHalf op d s dst src) = dst :=
  BitVec.eq_of_getLsbD_eq fun i hi => by
    simp only [dstCode, firstHalf, BitVec.getLsbD_append, BitVec.getLsbD_extractLsb']; grind

@[simp] theorem srcCode_firstHalf : srcCode (firstHalf op d s dst src) = src :=
  BitVec.extractLsb'_append_eq_right

theorem bit9_firstHalf : (firstHalf op d s dst src).extractLsb' 9 1 = d :=
  BitVec.eq_of_getLsbD_eq fun i hi => by
    simp only [firstHalf, BitVec.getLsbD_append, BitVec.getLsbD_extractLsb']; grind

theorem bit8_firstHalf : (firstHalf op d s dst src).extractLsb' 8 1 = s :=
  BitVec.eq_of_getLsbD_eq fun i hi => by
    simp only [firstHalf, BitVec.getLsbD_append, BitVec.getLsbD_extractLsb']; grind

@[simp] theorem dstReg_firstHalf : dstReg (firstHalf op d s dst src) = Reg.decode d dst := by
  rw [dstReg, bit9_firstHalf, dstCode_firstHalf]

@[simp] theorem srcReg_firstHalf : srcReg (firstHalf op d s dst src) = Reg.decode s src := by
  rw [srcReg, bit8_firstHalf, srcCode_firstHalf]

@[simp] theorem countField_firstHalf : countField (firstHalf op d s dst src) = s ++ src := by
  rw [countField, bit8_firstHalf]; exact congrArg (s ++ ·) (srcCode_firstHalf ..)

end

theorem firstHalf_fields (h : Half) :
    firstHalf (opField h) (h.extractLsb' 9 1) (h.extractLsb' 8 1) (dstCode h) (srcCode h) = h :=
  BitVec.eq_of_getLsbD_eq fun i hi => by
    simp only [opField, dstCode, srcCode, firstHalf, BitVec.getLsbD_append, BitVec.getLsbD_extractLsb']; grind

theorem count_split (n : BitVec 5) : n.extractLsb' 4 1 ++ n.extractLsb' 0 4 = n :=
  BitVec.extractLsb'_append_extractLsb' (w := 1)

theorem hwRR_eq (op : BitVec 6) (rd rs : Reg) : hwRR op rd rs = firstHalf op rd.bank rs.bank rd.code rs.code := rfl

theorem hwRn_eq (op : BitVec 6) (rd : Reg) (n : BitVec 5) :
    hwRn op rd n = firstHalf op rd.bank (n.extractLsb' 4 1) rd.code (n.extractLsb' 0 4) := rfl

theorem hwLn_eq (op : BitVec 7) (ld : BitVec 4) (n : BitVec 5) :
    hwLn op ld n = firstHalf (op.extractLsb' 1 6) (op.extractLsb' 0 1) (n.extractLsb' 4 1) ld (n.extractLsb' 0 4) :=
  BitVec.eq_of_getLsbD_eq fun i hi => by
    simp only [hwLn, firstHalf, BitVec.getLsbD_append, BitVec.getLsbD_extractLsb']; grind

theorem hwLL_eq (op : BitVec 8) (ld ls : BitVec 4) :
    hwLL op ld ls = firstHalf (op.extractLsb' 2 6) (op.extractLsb' 1 1) (op.extractLsb' 0 1) ld ls :=
  BitVec.eq_of_getLsbD_eq fun i hi => by
    simp only [hwLL, firstHalf, BitVec.getLsbD_append, BitVec.getLsbD_extractLsb']; grind

theorem hwLR_eq (op : BitVec 7) (ld : BitVec 4) (rs : Reg) :
    hwLR op ld rs = firstHalf (op.extractLsb' 1 6) (op.extractLsb' 0 1) rs.bank ld rs.code :=
  BitVec.eq_of_getLsbD_eq fun i hi => by
    simp only [hwLR, firstHalf, BitVec.getLsbD_append, BitVec.getLsbD_extractLsb']; grind

/-! ### The further half-words (R139 to R145): what the decoder reads from the half-words that the encoder writes, and back -/

theorem Const.decode_encode (c : Const) : Const.decode (c.encode.getD 0 0) (c.encode.getD 1 0) = c := by
  cases c with
  | short v =>
    have hlong : longBit (0#1 ++ v) = false := by simp only [longBit, BitVec.getLsbD_append]; grind
    simp only [Const.encode, Const.decode, List.getD_cons_zero, hlong, Bool.false_eq_true, if_false]
    exact congrArg _ BitVec.extractLsb'_append_eq_right
  | long v =>
    have hlong : longBit (1#1 ++ v.extractLsb' 16 15) = true := by simp only [longBit, BitVec.getLsbD_append]; grind
    simp only [Const.encode, Const.decode, List.getD_cons_zero, List.getD_cons_succ, hlong, if_true]
    clear hlong
    refine congrArg _ (BitVec.eq_of_getLsbD_eq fun i hi => ?_)
    simp only [BitVec.getLsbD_append, BitVec.getLsbD_extractLsb']; grind

theorem Const.encode_decode (h2 h3 : Half) :
    (Const.decode h2 h3).encode = [h2, h3].take (if longBit h2 then 2 else 1) := by
  unfold Const.decode
  split <;> rename_i h <;> rw [longBit] at h <;>
  simp only [Const.encode, List.take_succ_cons, List.take_zero, List.cons.injEq, and_true]
  · refine ⟨BitVec.eq_of_getLsbD_eq fun i hi => ?_, BitVec.eq_of_getLsbD_eq fun i hi => ?_⟩ <;>
    simp only [BitVec.getLsbD_append, BitVec.getLsbD_extractLsb'] <;> grind
  · refine BitVec.eq_of_getLsbD_eq fun i hi => ?_
    simp only [BitVec.getLsbD_append, BitVec.getLsbD_extractLsb']; grind

theorem Lim.xCode_encode (l : Lim) (x : BitVec 3) : xCode ((l.encode x).getD 0 0) = x := by
  cases l <;> refine BitVec.eq_of_getLsbD_eq fun i hi => ?_ <;>
  simp only [Lim.encode, xCode, List.getD_cons_zero, BitVec.getLsbD_append, BitVec.getLsbD_extractLsb'] <;> grind

theorem Lim.decode_encode (l : Lim) (x : BitVec 3) : Lim.decode ((l.encode x).getD 0 0) ((l.encode x).getD 1 0) = l := by
  cases l with
  | short v =>
    have hlong : longBit (0#1 ++ x ++ v) = false := by simp only [longBit, BitVec.getLsbD_append]; grind
    simp only [Lim.encode, Lim.decode, List.getD_cons_zero, hlong, Bool.false_eq_true, if_false]
    exact congrArg _ BitVec.extractLsb'_append_eq_right
  | long v =>
    have hlong : longBit (1#1 ++ x ++ v.extractLsb' 16 12) = true := by simp only [longBit, BitVec.getLsbD_append]; grind
    simp only [Lim.encode, Lim.decode, List.getD_cons_zero, List.getD_cons_succ, hlong, if_true]
    clear hlong
    refine congrArg _ (BitVec.eq_of_getLsbD_eq fun i hi => ?_)
    simp only [BitVec.getLsbD_append, BitVec.getLsbD_extractLsb']; grind

theorem Lim.encode_decode (h2 h3 : Half) :
    (Lim.decode h2 h3).encode (xCode h2) = [h2, h3].take (if longBit h2 then 2 else 1) := by
  unfold Lim.decode xCode
  split <;> rename_i h <;> rw [longBit] at h <;>
  simp only [Lim.encode, List.take_succ_cons, List.take_zero, List.cons.injEq, and_true]
  · refine ⟨BitVec.eq_of_getLsbD_eq fun i hi => ?_, BitVec.eq_of_getLsbD_eq fun i hi => ?_⟩ <;>
    simp only [BitVec.getLsbD_append, BitVec.getLsbD_extractLsb'] <;> grind
  · refine BitVec.eq_of_getLsbD_eq fun i hi => ?_
    simp only [BitVec.getLsbD_append, BitVec.getLsbD_extractLsb']; grind

theorem DisB.dCode_encode (dis : DisB) (d : BitVec 2) : dCode ((dis.encode d).getD 0 0) = d := by
  cases dis <;> refine BitVec.eq_of_getLsbD_eq fun i hi => ?_ <;>
  simp only [DisB.encode, dCode, List.getD_cons_zero, BitVec.getLsbD_append, BitVec.getLsbD_extractLsb'] <;> grind

theorem DisB.decode_encode (dis : DisB) (d : BitVec 2) :
    DisB.decode ((dis.encode d).getD 0 0) ((dis.encode d).getD 1 0) = dis := by
  cases dis with
  | short v =>
    have hlong : longBit (0#1 ++ v.extractLsb' 12 1 ++ d ++ v.extractLsb' 0 12) = false := by
      simp only [longBit, BitVec.getLsbD_append]; grind
    simp only [DisB.encode, DisB.decode, List.getD_cons_zero, hlong, Bool.false_eq_true, if_false]
    clear hlong
    refine congrArg _ (BitVec.eq_of_getLsbD_eq fun i hi => ?_)
    simp only [BitVec.getLsbD_append, BitVec.getLsbD_extractLsb']; grind
  | long v =>
    have hlong : longBit (1#1 ++ v.extractLsb' 28 1 ++ d ++ v.extractLsb' 16 12) = true := by
      simp only [longBit, BitVec.getLsbD_append]; grind
    simp only [DisB.encode, DisB.decode, List.getD_cons_zero, List.getD_cons_succ, hlong, if_true]
    clear hlong
    refine congrArg _ (BitVec.eq_of_getLsbD_eq fun i hi => ?_)
    simp only [BitVec.getLsbD_append, BitVec.getLsbD_extractLsb']; grind

theorem DisB.encode_decode {h2 h3 : Half} {d : BitVec 2} (hd : dCode h2 = d) :
    (DisB.decode h2 h3).encode d = [h2, h3].take (if longBit h2 then 2 else 1) := by
  rw [← hd]
  clear hd
  unfold DisB.decode dCode
  split <;> rename_i h <;> rw [longBit] at h <;>
  simp only [DisB.encode, List.take_succ_cons, List.take_zero, List.cons.injEq, and_true]
  · refine ⟨BitVec.eq_of_getLsbD_eq fun i hi => ?_, BitVec.eq_of_getLsbD_eq fun i hi => ?_⟩ <;>
    simp only [BitVec.getLsbD_append, BitVec.getLsbD_extractLsb'] <;> grind
  · refine BitVec.eq_of_getLsbD_eq fun i hi => ?_
    simp only [BitVec.getLsbD_append, BitVec.getLsbD_extractLsb']; grind

/-! A half-word or word displacement is a byte displacement whose lowest bits are the sub-code (R148), so that its round trips are
those of `DisB`. -/

theorem append_inj {m n : Nat} {a b : BitVec m} {x y : BitVec n} (h : a ++ x = b ++ y) : a = b ∧ x = y := by
  have hhigh := congrArg (BitVec.extractLsb' n m) h
  have hlow := congrArg (BitVec.extractLsb' 0 n) h
  rw [BitVec.extractLsb'_append_eq_left, BitVec.extractLsb'_append_eq_left] at hhigh
  rw [BitVec.extractLsb'_append_eq_right, BitVec.extractLsb'_append_eq_right] at hlow
  exact ⟨hhigh, hlow⟩

/-- The byte displacement of a half-word displacement with its sub-code. -/
def DisH.withLow (low : BitVec 1) : DisH → DisB
  | .short v => .short (v ++ low)
  | .long v => .long (v ++ low)

theorem DisH.withLow_inj {a b : DisH} {x y : BitVec 1} (h : a.withLow x = b.withLow y) : a = b ∧ x = y := by
  cases a <;> cases b <;> simp only [DisH.withLow, DisB.short.injEq, DisB.long.injEq, reduceCtorEq] at h <;>
  simp only [DisH.short.injEq, DisH.long.injEq] <;> exact append_inj h

theorem DisH.encode_eq (dis : DisH) (low : BitVec 1) : dis.encode low = (dis.withLow low).encode 2#2 := by
  cases dis <;> simp only [DisH.encode, DisH.withLow, DisB.encode, List.cons.injEq, and_true]
  · refine BitVec.eq_of_getLsbD_eq fun i hi => ?_
    simp only [BitVec.getLsbD_append, BitVec.getLsbD_extractLsb']; grind
  · refine ⟨BitVec.eq_of_getLsbD_eq fun i hi => ?_, BitVec.eq_of_getLsbD_eq fun i hi => ?_⟩ <;>
    simp only [BitVec.getLsbD_append, BitVec.getLsbD_extractLsb'] <;> grind

theorem DisH.decode_eq (h2 h3 : Half) : (DisH.decode h2 h3).withLow (lowBit h2 h3) = DisB.decode h2 h3 := by
  unfold DisH.decode DisB.decode lowBit lastHalf
  split <;> refine congrArg _ (BitVec.eq_of_getLsbD_eq fun i hi => ?_) <;>
  simp only [BitVec.getLsbD_append, BitVec.getLsbD_extractLsb'] <;> grind

section
variable (dis : DisH) (low : BitVec 1)

theorem DisH.dCode_encode : dCode ((dis.encode low).getD 0 0) = 2#2 := by
  rw [DisH.encode_eq, DisB.dCode_encode]

theorem DisH.withLow_encode :
    (DisH.decode ((dis.encode low).getD 0 0) ((dis.encode low).getD 1 0)).withLow
      (lowBit ((dis.encode low).getD 0 0) ((dis.encode low).getD 1 0)) = dis.withLow low := by
  rw [DisH.decode_eq, DisH.encode_eq, DisB.decode_encode]

theorem DisH.decode_encode : DisH.decode ((dis.encode low).getD 0 0) ((dis.encode low).getD 1 0) = dis :=
  (DisH.withLow_inj (dis.withLow_encode low)).1

theorem DisH.lowBit_encode : lowBit ((dis.encode low).getD 0 0) ((dis.encode low).getD 1 0) = low :=
  (DisH.withLow_inj (dis.withLow_encode low)).2

end

theorem DisH.encode_decode {h2 h3 : Half} {low : BitVec 1} (hd : dCode h2 = 2#2) (hl : lowBit h2 h3 = low) :
    (DisH.decode h2 h3).encode low = [h2, h3].take (if longBit h2 then 2 else 1) := by
  rw [← hl, DisH.encode_eq, DisH.decode_eq, DisB.encode_decode hd]

/-- The byte displacement of a word displacement with its sub-code. -/
def DisW.withLow (low : BitVec 2) : DisW → DisB
  | .short v => .short (v ++ low)
  | .long v => .long (v ++ low)

theorem DisW.withLow_inj {a b : DisW} {x y : BitVec 2} (h : a.withLow x = b.withLow y) : a = b ∧ x = y := by
  cases a <;> cases b <;> simp only [DisW.withLow, DisB.short.injEq, DisB.long.injEq, reduceCtorEq] at h <;>
  simp only [DisW.short.injEq, DisW.long.injEq] <;> exact append_inj h

theorem DisW.encode_eq (dis : DisW) (low : BitVec 2) : dis.encode low = (dis.withLow low).encode 3#2 := by
  cases dis <;> simp only [DisW.encode, DisW.withLow, DisB.encode, List.cons.injEq, and_true]
  · refine BitVec.eq_of_getLsbD_eq fun i hi => ?_
    simp only [BitVec.getLsbD_append, BitVec.getLsbD_extractLsb']; grind
  · refine ⟨BitVec.eq_of_getLsbD_eq fun i hi => ?_, BitVec.eq_of_getLsbD_eq fun i hi => ?_⟩ <;>
    simp only [BitVec.getLsbD_append, BitVec.getLsbD_extractLsb'] <;> grind

theorem DisW.decode_eq (h2 h3 : Half) : (DisW.decode h2 h3).withLow (lowBits h2 h3) = DisB.decode h2 h3 := by
  unfold DisW.decode DisB.decode lowBits lastHalf
  split <;> refine congrArg _ (BitVec.eq_of_getLsbD_eq fun i hi => ?_) <;>
  simp only [BitVec.getLsbD_append, BitVec.getLsbD_extractLsb'] <;> grind

section
variable (dis : DisW) (low : BitVec 2)

theorem DisW.dCode_encode : dCode ((dis.encode low).getD 0 0) = 3#2 := by
  rw [DisW.encode_eq, DisB.dCode_encode]

theorem DisW.withLow_encode :
    (DisW.decode ((dis.encode low).getD 0 0) ((dis.encode low).getD 1 0)).withLow
      (lowBits ((dis.encode low).getD 0 0) ((dis.encode low).getD 1 0)) = dis.withLow low := by
  rw [DisW.decode_eq, DisW.encode_eq, DisB.decode_encode]

theorem DisW.decode_encode : DisW.decode ((dis.encode low).getD 0 0) ((dis.encode low).getD 1 0) = dis :=
  (DisW.withLow_inj (dis.withLow_encode low)).1

theorem DisW.lowBits_encode : lowBits ((dis.encode low).getD 0 0) ((dis.encode low).getD 1 0) = low :=
  (DisW.withLow_inj (dis.withLow_encode low)).2

end

theorem DisW.encode_decode {h2 h3 : Half} {low : BitVec 2} (hd : dCode h2 = 3#2) (hl : lowBits h2 h3 = low) :
    (DisW.decode h2 h3).encode low = [h2, h3].take (if longBit h2 then 2 else 1) := by
  rw [← hl, DisW.encode_eq, DisW.decode_eq, DisB.encode_decode hd]

theorem Rel.fields_encode (r : Rel) (op : BitVec 8) :
    Rel.decode ((r.encode op).getD 0 0) ((r.encode op).getD 1 0) = r ∧
      opField ((r.encode op).getD 0 0) = op.extractLsb' 2 6 ∧ subField ((r.encode op).getD 0 0) = op.extractLsb' 0 2 := by
  cases r with
  | short v =>
    have hlong : (op ++ 0#1 ++ v.extractLsb' 0 6 ++ v.extractLsb' 6 1 : Half).getLsbD 7 = false := by
      simp only [BitVec.getLsbD_append]; grind
    simp only [Rel.encode, Rel.decode, opField, subField, List.getD_cons_zero, hlong, Bool.false_eq_true, if_false]
    clear hlong
    refine ⟨congrArg _ (BitVec.eq_of_getLsbD_eq fun i hi => ?_), BitVec.eq_of_getLsbD_eq fun i hi => ?_,
      BitVec.eq_of_getLsbD_eq fun i hi => ?_⟩ <;>
    simp only [BitVec.getLsbD_append, BitVec.getLsbD_extractLsb'] <;> grind
  | long v =>
    have hlong : (op ++ 1#1 ++ v.extractLsb' 15 7 : Half).getLsbD 7 = true := by
      simp only [BitVec.getLsbD_append]; grind
    simp only [Rel.encode, Rel.decode, opField, subField, List.getD_cons_zero, List.getD_cons_succ, hlong, if_true]
    clear hlong
    refine ⟨congrArg _ (BitVec.eq_of_getLsbD_eq fun i hi => ?_), BitVec.eq_of_getLsbD_eq fun i hi => ?_,
      BitVec.eq_of_getLsbD_eq fun i hi => ?_⟩ <;>
    simp only [BitVec.getLsbD_append, BitVec.getLsbD_extractLsb'] <;> grind

theorem Rel.encode_decode (h1 h2 : Half) :
    (Rel.decode h1 h2).encode (h1.extractLsb' 8 8) = [h1, h2].take (if h1.getLsbD 7 then 2 else 1) := by
  unfold Rel.decode
  split <;> rename_i h <;>
  simp only [Rel.encode, List.take_succ_cons, List.take_zero, List.cons.injEq, and_true]
  · refine ⟨BitVec.eq_of_getLsbD_eq fun i hi => ?_, BitVec.eq_of_getLsbD_eq fun i hi => ?_⟩ <;>
    simp only [BitVec.getLsbD_append, BitVec.getLsbD_extractLsb'] <;> grind
  · refine BitVec.eq_of_getLsbD_eq fun i hi => ?_
    simp only [BitVec.getLsbD_append, BitVec.getLsbD_extractLsb']; grind

theorem Imm.decode_encode {imm : Imm} (h : imm.wellFormed = true) :
    Imm.decode imm.count (imm.tail.getD 0 0) (imm.tail.getD 1 0) = imm := by
  cases imm with
  | short n =>
    have hn : n ≠ 17#5 ∧ n ≠ 18#5 ∧ n ≠ 19#5 := by simpa [Imm.wellFormed, not_or, and_assoc] using h
    obtain ⟨h17, h18, h19⟩ := hn
    rw [Imm.count, Imm.decode, if_neg h17, if_neg h18, if_neg h19]
  | word v => exact congrArg Imm.word (BitVec.extractLsb'_append_extractLsb' (w := 16))
  | low v => rfl
  | high v => rfl

/-- The rows of the table of R145 that have further half-words, and the others. -/
theorem Imm.decode_cases (n : BitVec 5) (h2 h3 : Half) :
    n = 17#5 ∧ Imm.decode n h2 h3 = .word (h2 ++ h3) ∨ n = 18#5 ∧ Imm.decode n h2 h3 = .low h2 ∨
      n = 19#5 ∧ Imm.decode n h2 h3 = .high h2 ∨
      (n ≠ 17#5 ∧ n ≠ 18#5 ∧ n ≠ 19#5) ∧ Imm.decode n h2 h3 = .short n := by
  unfold Imm.decode
  split_ifs with h17 h18 h19
  · exact .inl ⟨h17, rfl⟩
  · exact .inr (.inl ⟨h18, rfl⟩)
  · exact .inr (.inr (.inl ⟨h19, rfl⟩))
  · exact .inr (.inr (.inr ⟨⟨h17, h18, h19⟩, rfl⟩))

/-- The half-words of a Rimm instruction by n (R150). -/
def immHalves (n : BitVec 5) : Nat := if n = 17#5 then 3 else if n = 18#5 ∨ n = 19#5 then 2 else 1

theorem immHalves_short {n : BitVec 5} (h17 : n ≠ 17#5) (h18 : n ≠ 18#5) (h19 : n ≠ 19#5) : immHalves n = 1 := by
  rw [immHalves, if_neg h17, if_neg (not_or.mpr ⟨h18, h19⟩)]

section
variable (n : BitVec 5) (h2 h3 : Half)

theorem Imm.count_decode : (Imm.decode n h2 h3).count = n := by
  obtain ⟨rfl, h⟩ | ⟨rfl, h⟩ | ⟨rfl, h⟩ | ⟨-, h⟩ := Imm.decode_cases n h2 h3 <;> rw [h] <;> rfl

theorem Imm.wellFormed_decode : (Imm.decode n h2 h3).wellFormed = true := by
  obtain ⟨rfl, h⟩ | ⟨rfl, h⟩ | ⟨rfl, h⟩ | ⟨⟨h17, h18, h19⟩, h⟩ := Imm.decode_cases n h2 h3 <;> rw [h]
  case inr.inr.inr => simp [Imm.wellFormed, h17, h18, h19]
  all_goals rfl

theorem Imm.tail_decode (w : Half) : w :: (Imm.decode n h2 h3).tail = [w, h2, h3].take (immHalves n) := by
  obtain ⟨rfl, h⟩ | ⟨rfl, h⟩ | ⟨rfl, h⟩ | ⟨⟨h17, h18, h19⟩, h⟩ := Imm.decode_cases n h2 h3 <;> rw [h]
  case inl =>
    have hhigh : (h2 ++ h3).extractLsb' 16 16 = h2 := BitVec.extractLsb'_append_eq_left
    have hlow : (h2 ++ h3).extractLsb' 0 16 = h3 := BitVec.extractLsb'_append_eq_right
    rw [Imm.tail, hhigh, hlow]; rfl
  case inr.inr.inr => rw [immHalves_short h17 h18 h19]; rfl
  all_goals rfl

theorem immLength_decode : Machine.immLength (Imm.decode n h2 h3) = immHalves n := by
  obtain ⟨rfl, h⟩ | ⟨rfl, h⟩ | ⟨rfl, h⟩ | ⟨⟨h17, h18, h19⟩, h⟩ := Imm.decode_cases n h2 h3 <;> rw [h]
  case inr.inr.inr => rw [immHalves_short h17 h18 h19]; rfl
  all_goals rfl

end

/-! ### Formats: an encoded word is decoded by what the decoder answers for its fields (R132 to R140) -/

theorem decodeHalves_cons (h : Half) (tail : List Half) :
    decodeHalves (h :: tail) = decode h (tail.getD 0 0) (tail.getD 1 0) := rfl

theorem decodeHalves_rr {op : BitVec 6} {rd rs : Reg} {tail : List Half} {r : Decoded}
    (h : ∀ h1, opField h1 = op → dstReg h1 = rd → srcReg h1 = rs → decode h1 (tail.getD 0 0) (tail.getD 1 0) = r) :
    decodeHalves (hwRR op rd rs :: tail) = r :=
  h _ (opField_firstHalf ..) ((dstReg_firstHalf ..).trans rd.decode_bank_code)
    ((srcReg_firstHalf ..).trans rs.decode_bank_code)

theorem decode_hwRn {op : BitVec 6} {rd : Reg} {n : BitVec 5} {h2 h3 : Half} {r : Decoded}
    (h : ∀ h1, opField h1 = op → dstReg h1 = rd → countField h1 = n → decode h1 h2 h3 = r) :
    decode (hwRn op rd n) h2 h3 = r :=
  h _ (opField_firstHalf ..) ((dstReg_firstHalf ..).trans rd.decode_bank_code)
    ((countField_firstHalf ..).trans (count_split n))

theorem decodeHalves_rn {op : BitVec 6} {rd : Reg} {n : BitVec 5} {tail : List Half} {r : Decoded}
    (h : ∀ h1, opField h1 = op → dstReg h1 = rd → countField h1 = n → decode h1 (tail.getD 0 0) (tail.getD 1 0) = r) :
    decodeHalves (hwRn op rd n :: tail) = r :=
  decode_hwRn h

theorem decode_hwLn {op : BitVec 7} {ld : BitVec 4} {n : BitVec 5} {h2 h3 : Half} {r : Decoded}
    (h : ∀ h1, opField h1 = op.extractLsb' 1 6 → (subField h1).extractLsb' 1 1 = op.extractLsb' 0 1 → dstCode h1 = ld →
      countField h1 = n → decode h1 h2 h3 = r) : decode (hwLn op ld n) h2 h3 = r := by
  rw [hwLn_eq]
  refine h _ (opField_firstHalf ..) ?_ (dstCode_firstHalf ..) ((countField_firstHalf ..).trans (count_split n))
  rw [subField_firstHalf]; exact BitVec.extractLsb'_append_eq_left

theorem decodeHalves_ln {op : BitVec 7} {ld : BitVec 4} {n : BitVec 5} {r : Decoded}
    (h : ∀ h1, opField h1 = op.extractLsb' 1 6 → (subField h1).extractLsb' 1 1 = op.extractLsb' 0 1 → dstCode h1 = ld →
      countField h1 = n → decode h1 0 0 = r) : decodeHalves [hwLn op ld n] = r :=
  decode_hwLn h

theorem decodeHalves_ll {op : BitVec 8} {ld ls : BitVec 4} {tail : List Half} {r : Decoded}
    (h : ∀ h1, opField h1 = op.extractLsb' 2 6 → subField h1 = op.extractLsb' 0 2 → dstCode h1 = ld → srcCode h1 = ls →
      decode h1 (tail.getD 0 0) (tail.getD 1 0) = r) : decodeHalves (hwLL op ld ls :: tail) = r := by
  rw [hwLL_eq, decodeHalves_cons]
  refine h _ (opField_firstHalf ..) ?_ (dstCode_firstHalf ..) (srcCode_firstHalf ..)
  rw [subField_firstHalf]; exact BitVec.extractLsb'_append_extractLsb'_eq_extractLsb' rfl

theorem decodeHalves_lr {op : BitVec 7} {ld : BitVec 4} {rs : Reg} {tail : List Half} {r : Decoded}
    (h : ∀ h1, opField h1 = op.extractLsb' 1 6 → (subField h1).extractLsb' 1 1 = op.extractLsb' 0 1 → dstCode h1 = ld →
      srcReg h1 = rs → decode h1 (tail.getD 0 0) (tail.getD 1 0) = r) : decodeHalves (hwLR op ld rs :: tail) = r := by
  rw [hwLR_eq, decodeHalves_cons]
  refine h _ (opField_firstHalf ..) ?_ (dstCode_firstHalf ..) ((srcReg_firstHalf ..).trans rs.decode_bank_code)
  rw [subField_firstHalf]; exact BitVec.extractLsb'_append_eq_left

theorem decodeHalves_rel {op : BitVec 8} {rel : Rel} {r : Decoded}
    (h : ∀ h1 h2, opField h1 = op.extractLsb' 2 6 → subField h1 = op.extractLsb' 0 2 → Rel.decode h1 h2 = rel →
      decode h1 h2 0 = r) : decodeHalves (rel.encode op) = r := by
  obtain ⟨hrel, hop, hsub⟩ := Rel.fields_encode rel op
  cases rel <;> exact h _ _ hop hsub hrel

theorem decodeHalves_trap {code : BitVec 4} {t : BitVec 6} {r : Decoded}
    (h : ∀ h1, opField h1 = 0x3F#6 → subField h1 = code.extractLsb' 2 2 → h1.extractLsb' 0 2 = code.extractLsb' 0 2 →
      h1.extractLsb' 2 6 = t → decode h1 0 0 = r) : decodeHalves [hwTrap code t] = r := by
  rw [decodeHalves_cons]
  refine h _ ?_ ?_ BitVec.extractLsb'_append_eq_right ?_ <;>
  refine BitVec.eq_of_getLsbD_eq fun i hi => ?_ <;>
  simp only [opField, subField, hwTrap, BitVec.getLsbD_append, BitVec.getLsbD_extractLsb'] <;> grind

/-! ### The decoder's groups by OP-code (R148)

Of the two bits under the OP-code field, the formats Ln and LR have the upper one alone in their OP-code. -/

theorem pick4_low {sub : BitVec 2} (h : sub.extractLsb' 1 1 = 0#1) (a c d : Decoded) : pick4 sub a a c d = a := by
  have : ∀ x : BitVec 2, x.extractLsb' 1 1 = 0#1 → x = 0#2 ∨ x = 1#2 := by decide
  obtain rfl | rfl := this sub h <;> rfl

theorem pick4_high {sub : BitVec 2} (h : sub.extractLsb' 1 1 = 1#1) (a b c : Decoded) : pick4 sub a b c c = c := by
  have : ∀ x : BitVec 2, x.extractLsb' 1 1 = 1#1 → x = 2#2 ∨ x = 3#2 := by decide
  obtain rfl | rfl := this sub h <;> rfl

section
variable {h1 h2 h3 : Half}

theorem decode_chk (h : opField h1 = 0x00#6) : decode h1 h2 h3 = decodeChk (dstReg h1) (srcReg h1) := by
  unfold decode; rw [h]; rfl

theorem decode_movd (h : opField h1 = 0x01#6) : decode h1 h2 h3 = decodeMovd (dstReg h1) (srcReg h1) := by
  unfold decode; rw [h]; rfl

theorem decode_index (h : opField h1 = 0x04#6) : decode h1 h2 h3 = decodeIndex (dstReg h1) (srcReg h1) h2 h3 := by
  unfold decode; rw [h]; rfl

theorem decode_loadDis (h : opField h1 = 0x24#6) : decode h1 h2 h3 = decodeLoadDis (dstReg h1) (srcReg h1) h2 h3 := by
  unfold decode; rw [h]; rfl

theorem decode_loadNext (h : opField h1 = 0x25#6) : decode h1 h2 h3 = decodeLoadNext (dstReg h1) (srcReg h1) h2 h3 := by
  unfold decode; rw [h]; rfl

theorem decode_storeDis (h : opField h1 = 0x26#6) : decode h1 h2 h3 = decodeStoreDis (dstReg h1) (srcReg h1) h2 h3 := by
  unfold decode; rw [h]; rfl

theorem decode_storeNext (h : opField h1 = 0x27#6) :
    decode h1 h2 h3 = decodeStoreNext (dstReg h1) (srcReg h1) h2 h3 := by
  unfold decode; rw [h]; rfl

theorem decode_set (h : opField h1 = 0x2E#6) : decode h1 h2 h3 = decodeSet (dstReg h1) (countField h1) := by
  unfold decode; rw [h]; rfl

theorem decode_shrd (h : opField h1 = 0x20#6) :
    decode h1 h2 h3 = pick4 (subField h1) (.ok (.shrdi (dstCode h1) (countField h1))) (.ok (.shrdi (dstCode h1) (countField h1)))
      (.ok (.shrd (dstCode h1) (srcCode h1))) (.ok (.shr (dstCode h1) (srcCode h1))) := by
  unfold decode; rw [h]; rfl

theorem decode_sard (h : opField h1 = 0x21#6) :
    decode h1 h2 h3 = pick4 (subField h1) (.ok (.sardi (dstCode h1) (countField h1))) (.ok (.sardi (dstCode h1) (countField h1)))
      (.ok (.sard (dstCode h1) (srcCode h1))) (.ok (.sar (dstCode h1) (srcCode h1))) := by
  unfold decode; rw [h]; rfl

theorem decode_shld (h : opField h1 = 0x22#6) :
    decode h1 h2 h3 = pick4 (subField h1) (.ok (.shldi (dstCode h1) (countField h1))) (.ok (.shldi (dstCode h1) (countField h1)))
      (.ok (.shld (dstCode h1) (srcCode h1))) (.ok (.shl (dstCode h1) (srcCode h1))) := by
  unfold decode; rw [h]; rfl

theorem decode_testlz (h : opField h1 = 0x23#6) :
    decode h1 h2 h3 = pick4 (subField h1) (.reserved .opcode) (.reserved .opcode) (.ok (.testlz (dstCode h1) (srcCode h1)))
      (.ok (.rol (dstCode h1) (srcCode h1))) := by
  unfold decode; rw [h]; rfl

theorem decode_fadd (h : opField h1 = 0x30#6) :
    decode h1 h2 h3 = pick4 (subField h1) (.ok (.fadd (dstCode h1) (srcCode h1))) (.ok (.faddd (dstCode h1) (srcCode h1)))
      (.ok (.fsub (dstCode h1) (srcCode h1))) (.ok (.fsubd (dstCode h1) (srcCode h1))) := by
  unfold decode; rw [h]; rfl

theorem decode_fmul (h : opField h1 = 0x31#6) :
    decode h1 h2 h3 = pick4 (subField h1) (.ok (.fmul (dstCode h1) (srcCode h1))) (.ok (.fmuld (dstCode h1) (srcCode h1)))
      (.ok (.fdiv (dstCode h1) (srcCode h1))) (.ok (.fdivd (dstCode h1) (srcCode h1))) := by
  unfold decode; rw [h]; rfl

theorem decode_fcmp (h : opField h1 = 0x32#6) :
    decode h1 h2 h3 = pick4 (subField h1) (.ok (.fcmp (dstCode h1) (srcCode h1))) (.ok (.fcmpd (dstCode h1) (srcCode h1)))
      (.ok (.fcmpu (dstCode h1) (srcCode h1))) (.ok (.fcmpud (dstCode h1) (srcCode h1))) := by
  unfold decode; rw [h]; rfl

theorem decode_fcvt (h : opField h1 = 0x33#6) :
    decode h1 h2 h3 = pick4 (subField h1) (.ok (.fcvt (dstCode h1) (srcCode h1))) (.ok (.fcvtd (dstCode h1) (srcCode h1)))
      (decodeExtend (dstCode h1) (srcCode h1) h2) (.ok (.softDo (dstCode h1) (srcCode h1))) := by
  unfold decode; rw [h]; rfl

theorem decode_ldwR (h : opField h1 = 0x34#6) :
    decode h1 h2 h3 = pick4 (subField h1) (.ok (.ldwR (dstCode h1) (srcReg h1))) (.ok (.ldwR (dstCode h1) (srcReg h1)))
      (.ok (.lddR (dstCode h1) (srcReg h1))) (.ok (.lddR (dstCode h1) (srcReg h1))) := by
  unfold decode; rw [h]; rfl

theorem decode_ldwP (h : opField h1 = 0x35#6) :
    decode h1 h2 h3 = pick4 (subField h1) (.ok (.ldwP (dstCode h1) (srcReg h1))) (.ok (.ldwP (dstCode h1) (srcReg h1)))
      (.ok (.lddP (dstCode h1) (srcReg h1))) (.ok (.lddP (dstCode h1) (srcReg h1))) := by
  unfold decode; rw [h]; rfl

theorem decode_stwR (h : opField h1 = 0x36#6) :
    decode h1 h2 h3 = pick4 (subField h1) (.ok (.stwR (dstCode h1) (srcReg h1))) (.ok (.stwR (dstCode h1) (srcReg h1)))
      (.ok (.stdR (dstCode h1) (srcReg h1))) (.ok (.stdR (dstCode h1) (srcReg h1))) := by
  unfold decode; rw [h]; rfl

theorem decode_stwP (h : opField h1 = 0x37#6) :
    decode h1 h2 h3 = pick4 (subField h1) (.ok (.stwP (dstCode h1) (srcReg h1))) (.ok (.stwP (dstCode h1) (srcReg h1)))
      (.ok (.stdP (dstCode h1) (srcReg h1))) (.ok (.stdP (dstCode h1) (srcReg h1))) := by
  unfold decode; rw [h]; rfl

theorem decode_dbv (h : opField h1 = 0x38#6) :
    decode h1 h2 h3 = pick4 (subField h1) (.ok (.dbv (Rel.decode h1 h2))) (.ok (.dbnv (Rel.decode h1 h2)))
      (.ok (.dbe (Rel.decode h1 h2))) (.ok (.dbne (Rel.decode h1 h2))) := by
  unfold decode; rw [h]; rfl

theorem decode_dbc (h : opField h1 = 0x39#6) :
    decode h1 h2 h3 = pick4 (subField h1) (.ok (.dbc (Rel.decode h1 h2))) (.ok (.dbnc (Rel.decode h1 h2)))
      (.ok (.dbse (Rel.decode h1 h2))) (.ok (.dbht (Rel.decode h1 h2))) := by
  unfold decode; rw [h]; rfl

theorem decode_dbn (h : opField h1 = 0x3A#6) :
    decode h1 h2 h3 = pick4 (subField h1) (.ok (.dbn (Rel.decode h1 h2))) (.ok (.dbnn (Rel.decode h1 h2)))
      (.ok (.dble (Rel.decode h1 h2))) (.ok (.dbgt (Rel.decode h1 h2))) := by
  unfold decode; rw [h]; rfl

theorem decode_dbr (h : opField h1 = 0x3B#6) :
    decode h1 h2 h3 = pick4 (subField h1) (.ok (.dbr (Rel.decode h1 h2))) (.ok (.frame (dstCode h1) (srcCode h1)))
      (.ok (.call (dstCode h1) (srcReg h1) (Const.decode h2 h3))) (.ok (.call (dstCode h1) (srcReg h1) (Const.decode h2 h3))) := by
  unfold decode; rw [h]; rfl

theorem decode_bv (h : opField h1 = 0x3C#6) :
    decode h1 h2 h3 = pick4 (subField h1) (.ok (.bv (Rel.decode h1 h2))) (.ok (.bnv (Rel.decode h1 h2)))
      (.ok (.be (Rel.decode h1 h2))) (.ok (.bne (Rel.decode h1 h2))) := by
  unfold decode; rw [h]; rfl

theorem decode_bc (h : opField h1 = 0x3D#6) :
    decode h1 h2 h3 = pick4 (subField h1) (.ok (.bc (Rel.decode h1 h2))) (.ok (.bnc (Rel.decode h1 h2)))
      (.ok (.bse (Rel.decode h1 h2))) (.ok (.bht (Rel.decode h1 h2))) := by
  unfold decode; rw [h]; rfl

theorem decode_bn (h : opField h1 = 0x3E#6) :
    decode h1 h2 h3 = pick4 (subField h1) (.ok (.bn (Rel.decode h1 h2))) (.ok (.bnn (Rel.decode h1 h2)))
      (.ok (.ble (Rel.decode h1 h2))) (.ok (.bgt (Rel.decode h1 h2))) := by
  unfold decode; rw [h]; rfl

theorem decode_br (h : opField h1 = 0x3F#6) :
    decode h1 h2 h3 = pick4 (subField h1) (.ok (.br (Rel.decode h1 h2))) (.ok (decodeTrap h1)) (.ok (decodeTrap h1))
      (.ok (decodeTrap h1)) := by
  unfold decode; rw [h]; rfl

end

/-! ### Decoding inverts encoding -/

theorem Reg.notPcSr_iff (r : Reg) : r.notPcSr = true ↔ r.isPc = false ∧ r.isSr = false := by
  simp [Reg.notPcSr]

theorem wellFormedIndex_iff (rd rs : Reg) :
    wellFormedIndex rd rs = true ↔ rs.isSr = false ∧ rd.isSr = false ∧ rd.isPc = false := by
  simp [wellFormedIndex, Reg.notPcSr]; tauto

theorem Imm.count_ne_zero {imm : Imm} (h : imm.notZeroForm = true) : imm.count ≠ 0#5 := by
  cases imm with
  | short n => simpa [Imm.notZeroForm, Imm.count] using h
  | word | low | high => exact fun hn => by cases hn

theorem fetchCount_even (k : BitVec 4) : (fetchCount k).getLsbD 0 = false := by
  simp only [fetchCount, BitVec.getLsbD_append]; grind

theorem count_fetchCount (k : BitVec 4) : (fetchCount k).extractLsb' 1 4 = k := BitVec.extractLsb'_append_eq_left

/-- Each instruction is decoded from the fields of its format; well-formedness excludes the forms that another constructor spells. -/
theorem decode_encode (i : Instr) (hwf : i.wellFormed = true) : decodeHalves (encode i) = .ok i := by
  cases i with
  -- format RR
  | divu rd rs | divs rd rs | cmp rd rs | mov rd rs | add rd rs | adds rd rs | cmpb rd rs | andn rd rs | or rd rs | xor rd rs
  | subc rd rs | not rd rs | sub rd rs | subs rd rs | addc rd rs | and rd rs | neg rd rs | negs rd rs | mulu rd rs | muls rd rs
  | mul rd rs =>
    exact decodeHalves_rr fun h1 hop hd hs => by rw [decode, hop, hd, hs]; rfl
  | chk rd rs =>
    obtain ⟨hs, hnop⟩ := Bool.and_eq_true_iff.mp hwf
    exact decodeHalves_rr fun h1 hop hd hr => by
      rw [decode_chk hop, hd, hr, decodeChk, if_neg (by simpa using hs), if_neg fun ⟨h, h'⟩ => by simp [h, h'] at hnop]
  | chkz rd => exact decodeHalves_rr fun h1 hop hd hs => by rw [decode_chk hop, hd, hs]; rfl
  | nop => rfl
  | movd rd rs =>
    have hpc := Bool.eq_false_of_not_eq_true' hwf
    exact decodeHalves_rr fun h1 hop hd hs => by rw [decode_movd hop, hd, hs, decodeMovd, hpc]; rfl
  | ret rs =>
    obtain ⟨hpc, hsr⟩ := (Reg.notPcSr_iff rs).mp hwf
    exact decodeHalves_rr fun h1 hop hd hs => by rw [decode_movd hop, hd, hs, decodeMovd, hpc, hsr]; rfl
  -- format RRlim
  | xm1 rd rs lim | xm2 rd rs lim | xm4 rd rs lim | xm8 rd rs lim | xx1 rd rs lim | xx2 rd rs lim | xx4 rd rs lim | xx8 rd rs lim =>
    obtain ⟨hs, hsr, hpc⟩ := (wellFormedIndex_iff rd rs).mp hwf
    exact decodeHalves_rr fun h1 hop hd hr => by
      rw [decode_index hop, hd, hr, decodeIndex, lim.xCode_encode, lim.decode_encode, hs, hsr, hpc]; rfl
  -- format RRconst
  | mask rd rs const | sum rd rs const | sums rd rs const =>
    exact decodeHalves_rr fun h1 hop hd hs => by rw [decode, hop, hd, hs, const.decode_encode]; rfl
  -- format Rimm
  | cmpi rd imm | movi rd imm | andni rd imm | ori rd imm | xori rd imm =>
    exact decodeHalves_rn fun h1 hop hd hn => by rw [decode, hop, hd, hn, Imm.decode_encode hwf]; rfl
  | addi rd imm | addsi rd imm | cmpbi rd imm =>
    obtain ⟨himm, hnz⟩ := Bool.and_eq_true_iff.mp hwf
    exact decodeHalves_rn fun h1 hop hd hn => by
      rw [decode, hop, hd, hn, Imm.decode_encode himm]; exact congrArg Decoded.ok (if_neg (Imm.count_ne_zero hnz))
  | addiCz rd | addsiCz rd | cmpbiAnybz rd => exact decodeHalves_rn fun h1 hop hd hn => by rw [decode, hop, hd, hn]; rfl
  -- formats Ln and Rn
  | shrdi ld n => exact decodeHalves_ln fun h1 hop hsub hd hn => by rw [decode_shrd hop, hd, hn]; exact pick4_low hsub ..
  | sardi ld n => exact decodeHalves_ln fun h1 hop hsub hd hn => by rw [decode_sard hop, hd, hn]; exact pick4_low hsub ..
  | shldi ld n => exact decodeHalves_ln fun h1 hop hsub hd hn => by rw [decode_shld hop, hd, hn]; exact pick4_low hsub ..
  | shri rd n | sari rd n | shli rd n => exact decodeHalves_rn fun h1 hop hd hn => by rw [decode, hop, hd, hn]; rfl
  -- format LL
  | shrd ld ls | shr ld ls =>
    exact decodeHalves_ll fun h1 hop hsub hd hs => by rw [decode_shrd hop, hsub, hd, hs]; rfl
  | sard ld ls | sar ld ls =>
    exact decodeHalves_ll fun h1 hop hsub hd hs => by rw [decode_sard hop, hsub, hd, hs]; rfl
  | shld ld ls | shl ld ls =>
    exact decodeHalves_ll fun h1 hop hsub hd hs => by rw [decode_shld hop, hsub, hd, hs]; rfl
  | testlz ld ls | rol ld ls =>
    exact decodeHalves_ll fun h1 hop hsub hd hs => by rw [decode_testlz hop, hsub, hd, hs]; rfl
  | fadd ld ls | faddd ld ls | fsub ld ls | fsubd ld ls =>
    exact decodeHalves_ll fun h1 hop hsub hd hs => by rw [decode_fadd hop, hsub, hd, hs]; rfl
  | fmul ld ls | fmuld ld ls | fdiv ld ls | fdivd ld ls =>
    exact decodeHalves_ll fun h1 hop hsub hd hs => by rw [decode_fmul hop, hsub, hd, hs]; rfl
  | fcmp ld ls | fcmpd ld ls | fcmpu ld ls | fcmpud ld ls =>
    exact decodeHalves_ll fun h1 hop hsub hd hs => by rw [decode_fcmp hop, hsub, hd, hs]; rfl
  | frame ld ls =>
    exact decodeHalves_ll fun h1 hop hsub hd hs => by rw [decode_dbr hop, hsub, hd, hs]; rfl
  | fcvt ld ls | fcvtd ld ls | softDo ld ls | emul ld ls | emulu ld ls | emuls ld ls | emac ld ls | emacd ld ls | emsub ld ls
  | emsubd ld ls | ehmac ld ls | ehmacd ld ls | ehcmuld ld ls | ehcmacd ld ls | ehcsumd ld ls | ehcfftd ld ls | ehcfftsd ld ls =>
    exact decodeHalves_ll fun h1 hop hsub hd hs => by rw [decode_fcvt hop, hsub, hd, hs]; rfl
  -- format RRdis
  | ldbsD rd rs dis | ldbuD rd rs dis =>
    have hsr := Bool.eq_false_of_not_eq_true' hwf
    exact decodeHalves_rr fun h1 hop hd hs => by
      rw [decode_loadDis hop, hd, hs, decodeLoadDis, dis.dCode_encode, dis.decode_encode, hsr]; rfl
  | ldbsA rs dis | ldbuA rs dis =>
    exact decodeHalves_rr fun h1 hop hd hs => by
      rw [decode_loadDis hop, hd, hs, decodeLoadDis, dis.dCode_encode, dis.decode_encode]; rfl
  | ldhuD rd rs dis | ldhsD rd rs dis =>
    have hsr := Bool.eq_false_of_not_eq_true' hwf
    exact decodeHalves_rr fun h1 hop hd hs => by
      rw [decode_loadDis hop, hd, hs, decodeLoadDis, dis.dCode_encode, dis.lowBit_encode, dis.decode_encode, hsr]; rfl
  | ldhuA rs dis | ldhsA rs dis =>
    exact decodeHalves_rr fun h1 hop hd hs => by
      rw [decode_loadDis hop, hd, hs, decodeLoadDis, dis.dCode_encode, dis.lowBit_encode, dis.decode_encode]; rfl
  | ldwD rd rs dis | lddD rd rs dis | ldwIod rd rs dis | lddIod rd rs dis =>
    have hsr := Bool.eq_false_of_not_eq_true' hwf
    exact decodeHalves_rr fun h1 hop hd hs => by
      rw [decode_loadDis hop, hd, hs, decodeLoadDis, dis.dCode_encode, dis.lowBits_encode, dis.decode_encode, hsr]; rfl
  | ldwA rs dis | lddA rs dis | ldwIoa rs dis | lddIoa rs dis =>
    exact decodeHalves_rr fun h1 hop hd hs => by
      rw [decode_loadDis hop, hd, hs, decodeLoadDis, dis.dCode_encode, dis.lowBits_encode, dis.decode_encode]; rfl
  | ldbsN rd rs dis | ldbuN rd rs dis =>
    obtain ⟨hpc, hsr⟩ := (Reg.notPcSr_iff rd).mp hwf
    exact decodeHalves_rr fun h1 hop hd hs => by
      rw [decode_loadNext hop, hd, hs, decodeLoadNext, dis.dCode_encode, dis.decode_encode, hpc, hsr]; rfl
  | ldhuN rd rs dis | ldhsN rd rs dis =>
    obtain ⟨hpc, hsr⟩ := (Reg.notPcSr_iff rd).mp hwf
    exact decodeHalves_rr fun h1 hop hd hs => by
      rw [decode_loadNext hop, hd, hs, decodeLoadNext, dis.dCode_encode, dis.lowBit_encode, dis.decode_encode, hpc, hsr]; rfl
  | ldwN rd rs dis | lddN rd rs dis | ldwS rd rs dis =>
    obtain ⟨hpc, hsr⟩ := (Reg.notPcSr_iff rd).mp hwf
    exact decodeHalves_rr fun h1 hop hd hs => by
      rw [decode_loadNext hop, hd, hs, decodeLoadNext, dis.dCode_encode, dis.lowBits_encode, dis.decode_encode, hpc, hsr]; rfl
  | stbsD rd rs dis | stbuD rd rs dis =>
    have hsr := Bool.eq_false_of_not_eq_true' hwf
    exact decodeHalves_rr fun h1 hop hd hs => by
      rw [decode_storeDis hop, hd, hs, decodeStoreDis, dis.dCode_encode, dis.decode_encode, hsr]; rfl
  | stbsA rs dis | stbuA rs dis =>
    exact decodeHalves_rr fun h1 hop hd hs => by
      rw [decode_storeDis hop, hd, hs, decodeStoreDis, dis.dCode_encode, dis.decode_encode]; rfl
  | sthuD rd rs dis | sthsD rd rs dis =>
    have hsr := Bool.eq_false_of_not_eq_true' hwf
    exact decodeHalves_rr fun h1 hop hd hs => by
      rw [decode_storeDis hop, hd, hs, decodeStoreDis, dis.dCode_encode, dis.lowBit_encode, dis.decode_encode, hsr]; rfl
  | sthuA rs dis | sthsA rs dis =>
    exact decodeHalves_rr fun h1 hop hd hs => by
      rw [decode_storeDis hop, hd, hs, decodeStoreDis, dis.dCode_encode, dis.lowBit_encode, dis.decode_encode]; rfl
  | stwD rd rs dis | stdD rd rs dis | stwIod rd rs dis | stdIod rd rs dis =>
    have hsr := Bool.eq_false_of_not_eq_true' hwf
    exact decodeHalves_rr fun h1 hop hd hs => by
      rw [decode_storeDis hop, hd, hs, decodeStoreDis, dis.dCode_encode, dis.lowBits_encode, dis.decode_encode, hsr]; rfl
  | stwA rs dis | stdA rs dis | stwIoa rs dis | stdIoa rs dis =>
    exact decodeHalves_rr fun h1 hop hd hs => by
      rw [decode_storeDis hop, hd, hs, decodeStoreDis, dis.dCode_encode, dis.lowBits_encode, dis.decode_encode]; rfl
  | stbsN rd rs dis | stbuN rd rs dis =>
    obtain ⟨hpc, hsr⟩ := (Reg.notPcSr_iff rd).mp hwf
    exact decodeHalves_rr fun h1 hop hd hs => by
      rw [decode_storeNext hop, hd, hs, decodeStoreNext, dis.dCode_encode, dis.decode_encode, hpc, hsr]; rfl
  | sthuN rd rs dis | sthsN rd rs dis =>
    obtain ⟨hpc, hsr⟩ := (Reg.notPcSr_iff rd).mp hwf
    exact decodeHalves_rr fun h1 hop hd hs => by
      rw [decode_storeNext hop, hd, hs, decodeStoreNext, dis.dCode_encode, dis.lowBit_encode, dis.decode_encode, hpc, hsr]; rfl
  | stwN rd rs dis | stdN rd rs dis | stwS rd rs dis =>
    obtain ⟨hpc, hsr⟩ := (Reg.notPcSr_iff rd).mp hwf
    exact decodeHalves_rr fun h1 hop hd hs => by
      rw [decode_storeNext hop, hd, hs, decodeStoreNext, dis.dCode_encode, dis.lowBits_encode, dis.decode_encode, hpc, hsr]; rfl
  -- formats LR and LRconst
  | ldwR ld rs => exact decodeHalves_lr fun h1 hop hsub hd hs => by rw [decode_ldwR hop, hd, hs]; exact pick4_low hsub ..
  | lddR ld rs => exact decodeHalves_lr fun h1 hop hsub hd hs => by rw [decode_ldwR hop, hd, hs]; exact pick4_high hsub ..
  | ldwP ld rs => exact decodeHalves_lr fun h1 hop hsub hd hs => by rw [decode_ldwP hop, hd, hs]; exact pick4_low hsub ..
  | lddP ld rs => exact decodeHalves_lr fun h1 hop hsub hd hs => by rw [decode_ldwP hop, hd, hs]; exact pick4_high hsub ..
  | stwR ld rs => exact decodeHalves_lr fun h1 hop hsub hd hs => by rw [decode_stwR hop, hd, hs]; exact pick4_low hsub ..
  | stdR ld rs => exact decodeHalves_lr fun h1 hop hsub hd hs => by rw [decode_stwR hop, hd, hs]; exact pick4_high hsub ..
  | stwP ld rs => exact decodeHalves_lr fun h1 hop hsub hd hs => by rw [decode_stwP hop, hd, hs]; exact pick4_low hsub ..
  | stdP ld rs => exact decodeHalves_lr fun h1 hop hsub hd hs => by rw [decode_stwP hop, hd, hs]; exact pick4_high hsub ..
  | call ld rs const =>
    exact decodeHalves_lr fun h1 hop hsub hd hs => by
      rw [decode_dbr hop, hd, hs, const.decode_encode]; exact pick4_high hsub ..
  -- SETADR, SETxx and FETCH
  | setadr rd | set1 rd | set0 rd | setle rd | setgt rd | setlt rd | setge rd | setse rd | setht rd | setst rd | sethe rd | sete rd
  | setne rd | setv rd | setnv rd | set1M rd | setleM rd | setgtM rd | setltM rd | setgeM rd | setseM rd | sethtM rd | setstM rd
  | setheM rd | seteM rd | setneM rd | setvM rd | setnvM rd =>
    obtain ⟨hpc, hsr⟩ := (Reg.notPcSr_iff rd).mp hwf
    exact decodeHalves_rn fun h1 hop hd hn => by rw [decode_set hop, hd, hn, decodeSet, hpc, hsr]; rfl
  | fetch k =>
    exact decodeHalves_rn fun h1 hop hd hn => by
      rw [decode_set hop, hd, hn]; unfold decodeSet; rw [fetchCount_even, count_fetchCount]; rfl
  -- format PCrel
  | dbv rel | dbnv rel | dbe rel | dbne rel =>
    exact decodeHalves_rel fun h1 h2 hop hsub hr => by rw [decode_dbv hop, hsub, hr]; rfl
  | dbc rel | dbnc rel | dbse rel | dbht rel =>
    exact decodeHalves_rel fun h1 h2 hop hsub hr => by rw [decode_dbc hop, hsub, hr]; rfl
  | dbn rel | dbnn rel | dble rel | dbgt rel =>
    exact decodeHalves_rel fun h1 h2 hop hsub hr => by rw [decode_dbn hop, hsub, hr]; rfl
  | bv rel | bnv rel | be rel | bne rel =>
    exact decodeHalves_rel fun h1 h2 hop hsub hr => by rw [decode_bv hop, hsub, hr]; rfl
  | bc rel | bnc rel | bse rel | bht rel =>
    exact decodeHalves_rel fun h1 h2 hop hsub hr => by rw [decode_bc hop, hsub, hr]; rfl
  | bn rel | bnn rel | ble rel | bgt rel =>
    exact decodeHalves_rel fun h1 h2 hop hsub hr => by rw [decode_bn hop, hsub, hr]; rfl
  | dbr rel => exact decodeHalves_rel fun h1 h2 hop hsub hr => by rw [decode_dbr hop, hsub, hr]; rfl
  | br rel => exact decodeHalves_rel fun h1 h2 hop hsub hr => by rw [decode_br hop, hsub, hr]; rfl
  -- format PCadr
  | traple trapno | trapgt trapno | traplt trapno | trapge trapno | trapse trapno | trapht trapno | trapst trapno
  | traphe trapno | trape trapno | trapne trapno | trapv trapno | trap trapno =>
    exact decodeHalves_trap fun h1 hop hsub hlow ht => by rw [decode_br hop, hsub, decodeTrap, hsub, hlow, ht]; rfl

/-- Settles O1, by the format of each instruction. -/
theorem decodeInvertsEncode : Obligations.DecodeInvertsEncode := decode_encode

/-! ### Lengths by bits 15..8 of the first half-word (R150) -/

/-- Bits 15..8 of hw1: the OP-code of the formats LL and PCrel. -/
def opByte (hw1 : Half) : BitVec 8 := hw1.extractLsb' 8 8

/-- Always one half-word. -/
def singleOp (b : BitVec 8) : Bool :=
  b < 0x10 || 0x20 ≤ b && b < 0x60 || 0x80 ≤ b && b < 0x90 || 0xA0 ≤ b && b < 0xCE || 0xCF ≤ b && b < 0xE0 || b = 0xED ||
    0xFD ≤ b

/-- With const, lim or dis: two half-words, or three where bit 15 of the second is 1. -/
def tailOp (b : BitVec 8) : Bool := 0x10 ≤ b && b < 0x20 || 0x90 ≤ b && b < 0xA0 || b = 0xEE || b = 0xEF

/-- Format Rimm: by n. -/
def immOp (b : BitVec 8) : Bool := 0x60 ≤ b && b < 0x80

/-- Format PCrel: by bit 7. -/
def relOp (b : BitVec 8) : Bool := 0xE0 ≤ b && b < 0xED || 0xF0 ≤ b && b < 0xFD

theorem toNat_opByte (h1 : Half) : (opByte h1).toNat = h1.toNat / 256 := by
  rw [opByte, BitVec.extractLsb'_toNat, Nat.shiftRight_eq_div_pow]; omega

section
variable {h1 h2 : Half}

theorem lengthOf_singleOp (h : singleOp (opByte h1) = true) : lengthOf h1 h2 = 1 := by
  simp only [singleOp, Bool.or_eq_true, Bool.and_eq_true, decide_eq_true_eq, BitVec.lt_def, BitVec.le_def,
    ← BitVec.toNat_inj, toNat_opByte, BitVec.reduceToNat] at h
  have hthird : needsThird h1 h2 = false := by
    unfold needsThird; dsimp only; rw [if_neg (by omega), if_neg (by omega)]
  have hsecond : needsSecond h1 = false := by
    unfold needsSecond; dsimp only
    rw [if_neg (by omega), if_neg (by omega), if_neg (by omega), if_neg (by omega), if_neg (by omega)]
    exact decide_eq_false (by omega)
  rw [lengthOf, hthird, hsecond]; rfl

theorem lengthOf_tailOp (h : tailOp (opByte h1) = true) : lengthOf h1 h2 = if longBit h2 then 3 else 2 := by
  simp only [tailOp, Bool.or_eq_true, Bool.and_eq_true, decide_eq_true_eq, BitVec.lt_def, BitVec.le_def,
    ← BitVec.toNat_inj, toNat_opByte, BitVec.reduceToNat] at h
  have hthird : needsThird h1 h2 = longBit h2 := by
    unfold needsThird; dsimp only; rw [if_neg (by omega), if_pos (by omega)]
  have hsecond : needsSecond h1 = true := by
    unfold needsSecond; dsimp only
    by_cases hlim : 0x10 ≤ h1.toNat / 256 ∧ h1.toNat / 256 ≤ 0x1F
    · rw [if_pos hlim]
    rw [if_neg hlim, if_neg (by omega)]
    by_cases hdis : 0x90 ≤ h1.toNat / 256 ∧ h1.toNat / 256 ≤ 0x9F
    · rw [if_pos hdis]
    rw [if_neg hdis, if_neg (by omega), if_neg (by omega)]
    exact decide_eq_true (by omega)
  rw [lengthOf, hthird, hsecond]; rfl

theorem lengthOf_immOp (h : immOp (opByte h1) = true) :
    lengthOf h1 h2 = immHalves (countField h1) := by
  simp only [immOp, Bool.and_eq_true, decide_eq_true_eq, BitVec.lt_def, BitVec.le_def, toNat_opByte, BitVec.reduceToNat] at h
  simp only [lengthOf, needsThird, needsSecond, if_pos (show 0x60 ≤ h1.toNat / 256 ∧ h1.toNat / 256 ≤ 0x7F by omega),
    if_neg (show ¬(0x10 ≤ h1.toNat / 256 ∧ h1.toNat / 256 ≤ 0x1F) by omega), decide_eq_true_eq, immHalves]
  have hn : ∀ n : BitVec 5, n ≠ 17#5 → ((17 ≤ n.toNat ∧ n.toNat ≤ 19) ↔ n = 18#5 ∨ n = 19#5) := by decide
  by_cases h17 : countField h1 = 17#5
  · rw [if_pos h17, if_pos h17]
  · rw [if_neg h17, if_neg h17, if_congr (hn _ h17) rfl rfl]

theorem lengthOf_extend (h : opByte h1 = 0xCE#8) : lengthOf h1 h2 = 2 := by
  have hb : h1.toNat / 256 = 0xCE := by rw [← toNat_opByte, h]; rfl
  simp [lengthOf, needsThird, needsSecond, hb]

theorem lengthOf_relOp (h : relOp (opByte h1) = true) : lengthOf h1 h2 = if h1.getLsbD 7 then 2 else 1 := by
  simp only [relOp, Bool.or_eq_true, Bool.and_eq_true, decide_eq_true_eq, BitVec.lt_def, BitVec.le_def,
    toNat_opByte, BitVec.reduceToNat] at h
  have hthird : needsThird h1 h2 = false := by
    unfold needsThird; dsimp only; rw [if_neg (by omega), if_neg (by omega)]
  have hsecond : needsSecond h1 = h1.getLsbD 7 := by
    unfold needsSecond; dsimp only
    rw [if_neg (by omega), if_neg (by omega), if_neg (by omega), if_neg (by omega), if_pos (by omega)]
  rw [lengthOf, hthird, hsecond]; rfl

end

/-! ### The fields of a half-word, written in their format, give it back -/

section
variable {h : Half}

theorem opByte_eq (h : Half) : opByte h = opField h ++ subField h :=
  (BitVec.extractLsb'_append_extractLsb'_eq_extractLsb' (x := h) (start₂ := 10) (start₁ := 8) (len₁ := 2) (len₂ := 6) rfl).symm

theorem opField_of_opByte {b : BitVec 8} (hb : opByte h = b) : opField h = b.extractLsb' 2 6 := by
  rw [← hb, opByte_eq]; exact BitVec.extractLsb'_append_eq_left.symm

theorem subField_of_opByte {b : BitVec 8} (hb : opByte h = b) : subField h = b.extractLsb' 0 2 := by
  rw [← hb, opByte_eq]; exact BitVec.extractLsb'_append_eq_right.symm

theorem hwRR_fields {op : BitVec 6} (hop : opField h = op) : hwRR op (dstReg h) (srcReg h) = h := by
  simp only [hwRR_eq, dstReg, srcReg, Reg.bank_decode, Reg.code_decode, ← hop, firstHalf_fields]

theorem hwRn_fields {op : BitVec 6} (hop : opField h = op) : hwRn op (dstReg h) (countField h) = h := by
  have hhigh : (countField h).extractLsb' 4 1 = h.extractLsb' 8 1 := BitVec.extractLsb'_append_eq_left
  have hlow : (countField h).extractLsb' 0 4 = srcCode h := BitVec.extractLsb'_append_eq_right
  rw [hwRn_eq, dstReg, Reg.bank_decode, Reg.code_decode, hhigh, hlow, ← hop, firstHalf_fields]

theorem hwLL_fields {op : BitVec 8} (hop : opByte h = op) : hwLL op (dstCode h) (srcCode h) = h :=
  BitVec.eq_of_getLsbD_eq fun i hi => by
    simp only [← hop, opByte, dstCode, srcCode, hwLL, BitVec.getLsbD_append, BitVec.getLsbD_extractLsb']; grind

theorem hwLn_fields {op : BitVec 7} (hop : (opByte h).extractLsb' 1 7 = op) : hwLn op (dstCode h) (countField h) = h :=
  BitVec.eq_of_getLsbD_eq fun i hi => by
    simp only [← hop, opByte, dstCode, countField, hwLn, BitVec.getLsbD_append, BitVec.getLsbD_extractLsb']; grind

theorem hwLR_fields {op : BitVec 7} (hop : (opByte h).extractLsb' 1 7 = op) : hwLR op (dstCode h) (srcReg h) = h :=
  BitVec.eq_of_getLsbD_eq fun i hi => by
    simp only [← hop, opByte, dstCode, srcReg, srcCode, Reg.bank_decode, Reg.code_decode, hwLR, BitVec.getLsbD_append,
      BitVec.getLsbD_extractLsb']; grind

theorem hwTrap_fields (hop : opField h = 0x3F#6) :
    hwTrap (subField h ++ h.extractLsb' 0 2) (h.extractLsb' 2 6) = h :=
  BitVec.eq_of_getLsbD_eq fun i hi => by
    simp only [hwTrap, ← hop, opField, subField, BitVec.getLsbD_append, BitVec.getLsbD_extractLsb']; grind

end

/-! ### What was read encodes to the half-words read, and what is refused is reserved -/

/-- The codes in the table of R149. -/
def extendCodes : List Half :=
  [0x102, 0x104, 0x106, 0x10A, 0x10E, 0x11A, 0x11E, 0x2A, 0x2E, 0x46, 0x4E, 0x86, 0x96, 0x296]

/-- The half-words of a reserved or undefined encoding, by the decoder's reason (30 R151, 92 D6, 93 U32). -/
def ReservedAs (h1 h2 h3 : Half) : DecodeError → Prop
  | .opcode => opByte h1 ∈ [0x8C#8, 0x8D#8, 0xAC#8, 0xAD#8, 0xAE#8, 0xAF#8]
  | .returnSource => opField h1 = 0x01#6 ∧ (dstReg h1).isPc = true ∧ ((srcReg h1).isPc = true ∨ (srcReg h1).isSr = true)
  | .indexOperand =>
    opField h1 = 0x04#6 ∧ ((srcReg h1).isSr = true ∨ (dstReg h1).isPc = true ∨ (dstReg h1).isSr = true)
  | .nextAddressPcSr => (opField h1 = 0x25#6 ∨ opField h1 = 0x27#6) ∧ ((dstReg h1).isPc = true ∨ (dstReg h1).isSr = true)
  | .dCode => (opField h1 = 0x25#6 ∨ opField h1 = 0x27#6) ∧ (dstReg h1).isPc = false ∧ (dstReg h1).isSr = false ∧
      dCode h2 = 3#2 ∧ lowBits h2 h3 = 2#2
  | .setPc => opField h1 = 0x2E#6 ∧ (dstReg h1).isPc = true
  | .fetchOdd => opField h1 = 0x2E#6 ∧ (dstReg h1).isSr = true ∧ (countField h1).getLsbD 0 = true
  | .setCode => opField h1 = 0x2E#6 ∧ (dstReg h1).isPc = false ∧ (dstReg h1).isSr = false ∧
      countField h1 ∈ [1#5, 16#5, 17#5, 19#5]
  | .extendCode => opByte h1 = 0xCE#8 ∧ h2 ∉ extendCodes

/-- What the decoder's answer has to be for the half-words it was read from. -/
def Decoded.ReadBack (h1 h2 h3 : Half) : Decoded → Prop
  | .ok i => i.wellFormed = true ∧ encode i = [h1, h2, h3].take (lengthOf h1 h2)
  | .reserved why => ReservedAs h1 h2 h3 why

section
variable {h1 h2 h3 : Half}

namespace Decoded.ReadBack

theorem single {i : Instr} {w : Half} (hlen : lengthOf h1 h2 = 1) (hwf : i.wellFormed = true) (hw : w = h1)
    (he : encode i = [w]) : (Decoded.ok i).ReadBack h1 h2 h3 :=
  ⟨hwf, by rw [hlen, he, hw]; rfl⟩

theorem tail {i : Instr} {w : Half} {t : List Half} (hlen : lengthOf h1 h2 = if longBit h2 then 3 else 2)
    (hwf : i.wellFormed = true) (hw : w = h1) (ht : t = [h2, h3].take (if longBit h2 then 2 else 1))
    (he : encode i = w :: t) : (Decoded.ok i).ReadBack h1 h2 h3 :=
  ⟨hwf, by rw [hlen, he, hw, ht]; split <;> rfl⟩

end Decoded.ReadBack

/-! #### Lengths by the OP-code field alone -/

theorem lengthOf_singleField {op : BitVec 6} (hop : opField h1 = op) (h : ∀ s : BitVec 2, singleOp (op ++ s) = true) :
    lengthOf h1 h2 = 1 :=
  lengthOf_singleOp (by rw [opByte_eq, hop]; exact h _)

theorem lengthOf_tailField {op : BitVec 6} (hop : opField h1 = op) (h : ∀ s : BitVec 2, tailOp (op ++ s) = true) :
    lengthOf h1 h2 = if longBit h2 then 3 else 2 :=
  lengthOf_tailOp (by rw [opByte_eq, hop]; exact h _)

theorem lengthOf_immField {op : BitVec 6} (hop : opField h1 = op) (h : ∀ s : BitVec 2, immOp (op ++ s) = true) :
    lengthOf h1 h2 = immHalves (countField h1) :=
  lengthOf_immOp (by rw [opByte_eq, hop]; exact h _)

/-! #### Format RR -/

/-- The OP-codes of format RR with any two registers (R146). -/
def rrOps : List (BitVec 6) :=
  [0x02, 0x03, 0x08, 0x09, 0x0A, 0x0B, 0x0C, 0x0D, 0x0E, 0x0F, 0x10, 0x11, 0x12, 0x13, 0x14, 0x15, 0x16, 0x17, 0x2C, 0x2D, 0x2F]

theorem readBack_rr : ∀ op ∈ rrOps, opField h1 = op → (decode h1 h2 h3).ReadBack h1 h2 h3 := by
  intro op hmem hop
  have hsingle : ∀ op ∈ rrOps, ∀ s : BitVec 2, singleOp (op ++ s) = true := by decide
  have hlen := lengthOf_singleField (h2 := h2) hop (hsingle op hmem)
  fin_cases hmem <;> (rw [decode, hop]; exact .single hlen rfl (hwRR_fields hop) rfl)

/-! #### The other formats of one half-word -/

/-- The OP-codes of format Rn whose n is a shift count (R137, R143). -/
def rnOps : List (BitVec 6) := [0x28, 0x29, 0x2A]

theorem readBack_rn : ∀ op ∈ rnOps, opField h1 = op → (decode h1 h2 h3).ReadBack h1 h2 h3 := by
  intro op hmem hop
  have hsingle : ∀ op ∈ rnOps, ∀ s : BitVec 2, singleOp (op ++ s) = true := by decide
  have hlen := lengthOf_singleField (h2 := h2) hop (hsingle op hmem)
  fin_cases hmem <;> (rw [decode, hop]; exact .single hlen rfl (hwRn_fields hop) rfl)

/-! #### const, lim and displacements -/

/-- The OP-codes of format RRconst (R140). -/
def constOps : List (BitVec 6) := [0x05, 0x06, 0x07]

theorem readBack_const : ∀ op ∈ constOps, opField h1 = op → (decode h1 h2 h3).ReadBack h1 h2 h3 := by
  intro op hmem hop
  have htail : ∀ op ∈ constOps, ∀ s : BitVec 2, tailOp (op ++ s) = true := by decide
  have hlen := lengthOf_tailField (h2 := h2) hop (htail op hmem)
  fin_cases hmem <;> (rw [decode, hop]; exact .tail hlen rfl (hwRR_fields hop) (Const.encode_decode h2 h3) rfl)

theorem readBack_index (hop : opField h1 = 0x04#6) : (decode h1 h2 h3).ReadBack h1 h2 h3 := by
  have hlen := lengthOf_tailField (h2 := h2) hop (by decide)
  rw [decode_index hop, decodeIndex]
  split
  · next hbad => exact ⟨hop, by simp only [Bool.or_eq_true] at hbad; tauto⟩
  · next hgood =>
    have hwf : wellFormedIndex (dstReg h1) (srcReg h1) = true := by
      rw [wellFormedIndex_iff]; simpa [and_assoc] using hgood
    have ht := Lim.encode_decode h2 h3
    generalize xCode h2 = x at ht ⊢
    have hx : ∀ x : BitVec 3, x ∈ [0#3, 1#3, 2#3, 3#3, 4#3, 5#3, 6#3, 7#3] := by decide
    have hmem := hx x
    fin_cases hmem <;> exact .tail hlen hwf (hwRR_fields hop) ht rfl

theorem two_bits (x : BitVec 2) : x = 0#2 ∨ x = 1#2 ∨ x = 2#2 ∨ x = 3#2 := by revert x; decide

/-- A displacement mode and the absolute mode with the same displacement. -/
theorem Decoded.ReadBack.dis {op : BitVec 6} {iD iA : Instr} {t : List Half} (hop : opField h1 = op)
    (hlen : lengthOf h1 h2 = if longBit h2 then 3 else 2) (ht : t = [h2, h3].take (if longBit h2 then 2 else 1))
    (hwD : iD.wellFormed = !(dstReg h1).isSr) (hwA : iA.wellFormed = true)
    (heD : encode iD = hwRR op (dstReg h1) (srcReg h1) :: t) (heA : encode iA = hwRR op (.g 1) (srcReg h1) :: t) :
    (if (dstReg h1).isSr then Decoded.ok iA else .ok iD).ReadBack h1 h2 h3 := by
  split
  · next hsr => exact .tail hlen hwA (regSlot_sr hsr ▸ hwRR_fields hop) ht heA
  · next hsr => exact .tail hlen (by rw [hwD]; simpa using hsr) (hwRR_fields hop) ht heD

/-- Loads and stores in the displacement and absolute modes (R148). -/
def disOps : List (BitVec 6) := [0x24, 0x26]

theorem readBack_dis : ∀ op ∈ disOps, opField h1 = op → (decode h1 h2 h3).ReadBack h1 h2 h3 := by
  intro op hmem hop
  have htail : ∀ op ∈ disOps, ∀ s : BitVec 2, tailOp (op ++ s) = true := by decide
  have hlen := lengthOf_tailField (h2 := h2) hop (htail op hmem)
  rcases two_bits (dCode h2) with hd | hd | hd | hd
  · have hbyte := DisB.encode_decode (h3 := h3) hd
    fin_cases hmem <;>
      (rw [decode, hop, decodeLoadDis, decodeStoreDis, hd]; exact .dis hop hlen hbyte rfl rfl rfl rfl)
  · have hbyte := DisB.encode_decode (h3 := h3) hd
    fin_cases hmem <;>
      (rw [decode, hop, decodeLoadDis, decodeStoreDis, hd]; exact .dis hop hlen hbyte rfl rfl rfl rfl)
  · rcases BitVec.eq_zero_or_eq_one (lowBit h2 h3) with hl | hl <;> have hhalf := DisH.encode_decode hd hl <;>
      fin_cases hmem <;>
      (rw [decode, hop, decodeLoadDis, decodeStoreDis, hd, hl]; exact .dis hop hlen hhalf rfl rfl rfl rfl)
  · rcases two_bits (lowBits h2 h3) with hl | hl | hl | hl <;> have hword := DisW.encode_decode hd hl <;>
      fin_cases hmem <;>
      (rw [decode, hop, decodeLoadDis, decodeStoreDis, hd, hl]; exact .dis hop hlen hword rfl rfl rfl rfl)

/-- Loads and stores in the next-address mode (R148). -/
def nextOps : List (BitVec 6) := [0x25, 0x27]

theorem readBack_next : ∀ op ∈ nextOps, opField h1 = op → (decode h1 h2 h3).ReadBack h1 h2 h3 := by
  intro op hmem hop
  have htail : ∀ op ∈ nextOps, ∀ s : BitVec 2, tailOp (op ++ s) = true := by decide
  have hlen := lengthOf_tailField (h2 := h2) hop (htail op hmem)
  have hop' : opField h1 = 0x25#6 ∨ opField h1 = 0x27#6 := by rw [hop]; simpa [nextOps] using hmem
  cases hg : (dstReg h1).isPc || (dstReg h1).isSr with
  | true =>
    have hres : ReservedAs h1 h2 h3 .nextAddressPcSr := ⟨hop', Bool.or_eq_true_iff.mp hg⟩
    fin_cases hmem <;> (rw [decode, hop, decodeLoadNext, decodeStoreNext, hg]; exact hres)
  | false =>
    obtain ⟨hpc, hsr⟩ := Bool.or_eq_false_iff.mp hg
    have hwf : (dstReg h1).notPcSr = true := (Reg.notPcSr_iff _).mpr ⟨hpc, hsr⟩
    rcases two_bits (dCode h2) with hd | hd | hd | hd
    · have hbyte := DisB.encode_decode (h3 := h3) hd
      fin_cases hmem <;>
        (rw [decode, hop, decodeLoadNext, decodeStoreNext, hg, hd]; exact .tail hlen hwf (hwRR_fields hop) hbyte rfl)
    · have hbyte := DisB.encode_decode (h3 := h3) hd
      fin_cases hmem <;>
        (rw [decode, hop, decodeLoadNext, decodeStoreNext, hg, hd]; exact .tail hlen hwf (hwRR_fields hop) hbyte rfl)
    · rcases BitVec.eq_zero_or_eq_one (lowBit h2 h3) with hl | hl <;> have hhalf := DisH.encode_decode hd hl <;>
        fin_cases hmem <;>
        (rw [decode, hop, decodeLoadNext, decodeStoreNext, hg, hd, hl]
         exact .tail hlen hwf (hwRR_fields hop) hhalf rfl)
    · by_cases hio : lowBits h2 h3 = 2#2
      · have hres : ReservedAs h1 h2 h3 .dCode := ⟨hop', hpc, hsr, hd, hio⟩
        fin_cases hmem <;> (rw [decode, hop, decodeLoadNext, decodeStoreNext, hg, hd, hio]; exact hres)
      · have hlow : ∀ x : BitVec 2, x ≠ 2#2 → x ∈ [0#2, 1#2, 3#2] := by decide
        have hmem' := hlow _ hio
        generalize hl : lowBits h2 h3 = low at hmem'
        have hword := DisW.encode_decode hd hl
        fin_cases hmem' <;> fin_cases hmem <;>
          (rw [decode, hop, decodeLoadNext, decodeStoreNext, hg, hd, hl]
           exact .tail hlen hwf (hwRR_fields hop) hword rfl)

/-! #### Immediates -/

/-- The Rimm OP-codes that read an immediate at every n (R145). -/
def immOps : List (BitVec 6) := [0x18, 0x19, 0x1D, 0x1E, 0x1F]

/-- The Rimm OP-codes that have CZ or ANYBZ in place of the immediate at n = 0 (R145). -/
def immCzOps : List (BitVec 6) := [0x1A, 0x1B, 0x1C]

theorem Decoded.ReadBack.imm {i : Instr} {op : BitVec 6} (hop : opField h1 = op) (h : ∀ s : BitVec 2, immOp (op ++ s) = true)
    (hwf : i.wellFormed = true)
    (he : encode i = hwRn op (dstReg h1) (Imm.decode (countField h1) h2 h3).count ::
      (Imm.decode (countField h1) h2 h3).tail) : (Decoded.ok i).ReadBack h1 h2 h3 := by
  refine ⟨hwf, ?_⟩
  rw [he, Imm.count_decode, hwRn_fields hop, lengthOf_immField hop h]
  exact Imm.tail_decode ..

theorem readBack_imm : ∀ op ∈ immOps, opField h1 = op → (decode h1 h2 h3).ReadBack h1 h2 h3 := by
  intro op hmem hop
  have himm : ∀ op ∈ immOps, ∀ s : BitVec 2, immOp (op ++ s) = true := by decide
  have hwf := Imm.wellFormed_decode (countField h1) h2 h3
  have hs := himm op hmem
  fin_cases hmem <;> (rw [decode, hop]; exact .imm hop hs hwf rfl)

theorem Imm.decode_notZeroForm {n : BitVec 5} (h2 h3 : Half) (hn : n ≠ 0#5) : (Imm.decode n h2 h3).notZeroForm = true := by
  obtain ⟨-, h⟩ | ⟨-, h⟩ | ⟨-, h⟩ | ⟨-, h⟩ := Imm.decode_cases n h2 h3 <;> rw [h]
  case inr.inr.inr => exact bne_iff_ne.mpr hn
  all_goals rfl

theorem Decoded.ReadBack.okIte {c : Prop} [Decidable c] {i j : Instr} (hi : c → (Decoded.ok i).ReadBack h1 h2 h3)
    (hj : ¬c → (Decoded.ok j).ReadBack h1 h2 h3) : (Decoded.ok (if c then i else j)).ReadBack h1 h2 h3 := by
  split
  · next hc => exact hi hc
  · next hc => exact hj hc

theorem readBack_immCz : ∀ op ∈ immCzOps, opField h1 = op → (decode h1 h2 h3).ReadBack h1 h2 h3 := by
  intro op hmem hop
  have himm : ∀ op ∈ immCzOps, ∀ s : BitVec 2, immOp (op ++ s) = true := by decide
  have hs := himm op hmem
  have hlen := lengthOf_immField (h2 := h2) hop hs
  have hword := hwRn_fields hop
  have hzero (hn : countField h1 = 0#5) : lengthOf h1 h2 = 1 ∧ hwRn op (dstReg h1) 0#5 = h1 := by
    rw [hn] at hlen hword; exact ⟨hlen, hword⟩
  have hwf (hn : ¬countField h1 = 0#5) : (Imm.decode (countField h1) h2 h3).wellFormed = true ∧
      (Imm.decode (countField h1) h2 h3).notZeroForm = true :=
    ⟨Imm.wellFormed_decode .., Imm.decode_notZeroForm h2 h3 hn⟩
  fin_cases hmem <;>
    (rw [decode, hop]
     exact .okIte (fun hn => .single (hzero hn).1 rfl (hzero hn).2 rfl)
       fun hn => .imm hop hs (Bool.and_eq_true_iff.mpr (hwf hn)) rfl)

/-! #### CHK, MOVD, SETxx and Extend groups -/

theorem readBack_chk (hop : opField h1 = 0x00#6) : (decode h1 h2 h3).ReadBack h1 h2 h3 := by
  have hlen := lengthOf_singleField (h2 := h2) hop (by decide)
  have hw := hwRR_fields hop
  rw [decode_chk hop, decodeChk]
  split
  · next hsr => exact .single hlen rfl (regSlot_sr hsr ▸ hw) rfl
  · next hsr =>
    split
    · next hnop =>
      obtain ⟨hd, hs⟩ := hnop
      rw [hd, hs] at hw
      exact .single hlen rfl hw rfl
    · next hnop =>
      have hwf : wellFormedChk (dstReg h1) (srcReg h1) = true := by
        simpa [wellFormedChk, hsr, Decidable.or_iff_not_imp_left] using hnop
      exact .single hlen hwf hw rfl

theorem readBack_movd (hop : opField h1 = 0x01#6) : (decode h1 h2 h3).ReadBack h1 h2 h3 := by
  have hlen := lengthOf_singleField (h2 := h2) hop (by decide)
  have hw := hwRR_fields hop
  rw [decode_movd hop, decodeMovd]
  split
  · next hpc =>
    split
    · next hbad => exact ⟨hop, hpc, Bool.or_eq_true_iff.mp hbad⟩
    · next hgood =>
      have hwf : (srcReg h1).notPcSr = true := (Reg.notPcSr_iff _).mpr (by simpa using hgood)
      exact .single hlen hwf (regSlot_pc hpc ▸ hw) rfl
  · next hpc =>
    have hwf : (!(dstReg h1).isPc) = true := by simpa using hpc
    exact .single hlen hwf hw rfl

/-- The n of the SETxx group that have an instruction (R148). -/
def setCodes : List (BitVec 5) :=
  [0, 2, 3, 4, 5, 6, 7, 8, 9, 10, 11, 12, 13, 14, 15, 18, 20, 21, 22, 23, 24, 25, 26, 27, 28, 29, 30, 31]

theorem fetchCount_half {n : BitVec 5} (hn : n.getLsbD 0 = false) : fetchCount (n.extractLsb' 1 4) = n := by
  revert hn; revert n; decide

theorem readBack_set (hop : opField h1 = 0x2E#6) : (decode h1 h2 h3).ReadBack h1 h2 h3 := by
  have hlen := lengthOf_singleField (h2 := h2) hop (by decide)
  have hw := hwRn_fields hop
  rw [decode_set hop]
  unfold decodeSet
  split
  · next hsr =>
    rw [regSlot_sr hsr] at hw
    split
    · next hodd => exact ⟨hop, hsr, hodd⟩
    · next heven => exact .single hlen rfl ((fetchCount_half (by simpa using heven)).symm ▸ hw) rfl
  · next hsr =>
    have hsr : (dstReg h1).isSr = false := by simpa using hsr
    split
    · next hpc => exact ⟨hop, hpc⟩
    · next hpc =>
      have hpc : (dstReg h1).isPc = false := by simpa using hpc
      have hwf : (dstReg h1).notPcSr = true := (Reg.notPcSr_iff _).mpr ⟨hpc, hsr⟩
      have hres (hmem) : ReservedAs h1 h2 h3 .setCode := ⟨hop, hpc, hsr, hmem⟩
      have hcodes : ∀ n : BitVec 5, n ∈ setCodes ∨ n ∈ [1#5, 16#5, 17#5, 19#5] := by decide
      have hcode := hcodes (countField h1)
      generalize countField h1 = n at hcode hw hres
      rcases hcode with hmem | hmem
      · fin_cases hmem <;> exact .single hlen hwf hw rfl
      · specialize hres hmem
        fin_cases hmem <;> exact hres

/-! #### OP-codes that the two bits under the OP-code field divide -/

theorem Decoded.ReadBack.pick4 {a b c d : Decoded} (ha : subField h1 = 0#2 → a.ReadBack h1 h2 h3)
    (hb : subField h1 = 1#2 → b.ReadBack h1 h2 h3) (hc : subField h1 = 2#2 → c.ReadBack h1 h2 h3)
    (hd : subField h1 = 3#2 → d.ReadBack h1 h2 h3) : (pick4 (subField h1) a b c d).ReadBack h1 h2 h3 := by
  rcases two_bits (subField h1) with h | h | h | h <;> rw [h]
  · exact ha h
  · exact hb h
  · exact hc h
  · exact hd h

section
variable {f : BitVec 6} {s : BitVec 2} {i : Instr}

theorem opByte_of_fields (hop : opField h1 = f) (hsub : subField h1 = s) : opByte h1 = f ++ s := by
  rw [opByte_eq, hop, hsub]

theorem Decoded.ReadBack.ll (hop : opField h1 = f) (hsub : subField h1 = s) (hs : singleOp (f ++ s) = true)
    (hwf : i.wellFormed = true) (he : encode i = [hwLL (f ++ s) (dstCode h1) (srcCode h1)]) :
    (Decoded.ok i).ReadBack h1 h2 h3 :=
  have hb := opByte_of_fields hop hsub
  .single (lengthOf_singleOp (hb ▸ hs)) hwf (hwLL_fields hb) he

theorem Decoded.ReadBack.ln (hop : opField h1 = f) (hsub : subField h1 = s) (hs : singleOp (f ++ s) = true)
    (hwf : i.wellFormed = true) (he : encode i = [hwLn ((f ++ s).extractLsb' 1 7) (dstCode h1) (countField h1)]) :
    (Decoded.ok i).ReadBack h1 h2 h3 :=
  have hb := opByte_of_fields hop hsub
  .single (lengthOf_singleOp (hb ▸ hs)) hwf (hwLn_fields (by rw [hb])) he

theorem Decoded.ReadBack.lr (hop : opField h1 = f) (hsub : subField h1 = s) (hs : singleOp (f ++ s) = true)
    (hwf : i.wellFormed = true) (he : encode i = [hwLR ((f ++ s).extractLsb' 1 7) (dstCode h1) (srcReg h1)]) :
    (Decoded.ok i).ReadBack h1 h2 h3 :=
  have hb := opByte_of_fields hop hsub
  .single (lengthOf_singleOp (hb ▸ hs)) hwf (hwLR_fields (by rw [hb])) he

theorem Decoded.ReadBack.lrConst (hop : opField h1 = f) (hsub : subField h1 = s) (hs : tailOp (f ++ s) = true)
    (hwf : i.wellFormed = true)
    (he : encode i = hwLR ((f ++ s).extractLsb' 1 7) (dstCode h1) (srcReg h1) :: (Const.decode h2 h3).encode) :
    (Decoded.ok i).ReadBack h1 h2 h3 :=
  have hb := opByte_of_fields hop hsub
  .tail (lengthOf_tailOp (hb ▸ hs)) hwf (hwLR_fields (by rw [hb])) (Const.encode_decode h2 h3) he

theorem Decoded.ReadBack.rel (hop : opField h1 = f) (hsub : subField h1 = s) (hs : relOp (f ++ s) = true)
    (hwf : i.wellFormed = true) (he : encode i = (Rel.decode h1 h2).encode (f ++ s)) :
    (Decoded.ok i).ReadBack h1 h2 h3 := by
  have hb := opByte_of_fields hop hsub
  refine ⟨hwf, ?_⟩
  rw [he, lengthOf_relOp (hb ▸ hs), ← hb]
  refine (Rel.encode_decode h1 h2).trans ?_
  split <;> rfl

theorem Decoded.ReadBack.opcode (hop : opField h1 = f) (hsub : subField h1 = s)
    (hmem : f ++ s ∈ [0x8C#8, 0x8D#8, 0xAC#8, 0xAD#8, 0xAE#8, 0xAF#8]) : (Decoded.reserved .opcode).ReadBack h1 h2 h3 :=
  show opByte h1 ∈ _ from opByte_of_fields hop hsub ▸ hmem

theorem Decoded.ReadBack.trap (hop : opField h1 = 0x3F#6) (hsub : subField h1 = s) (hs : singleOp (0x3F#6 ++ s) = true)
    (hne : s ≠ 0#2) : (Decoded.ok (decodeTrap h1)).ReadBack h1 h2 h3 := by
  have hlen := lengthOf_singleOp (h2 := h2) (opByte_of_fields hop hsub ▸ hs)
  have hword := hwTrap_fields hop
  have hcode : ∀ x y : BitVec 2, x ≠ 0#2 →
      x ++ y ∈ [4#4, 5#4, 6#4, 7#4, 8#4, 9#4, 10#4, 11#4, 12#4, 13#4, 14#4, 15#4] := by decide
  have hmem := hcode (subField h1) (h1.extractLsb' 0 2) (hsub ▸ hne)
  rw [decodeTrap]
  generalize subField h1 ++ h1.extractLsb' 0 2 = code at hmem hword ⊢
  fin_cases hmem <;> exact .single hlen rfl hword rfl

end

theorem decode_extend (hop : opByte h1 = 0xCE#8) : decode h1 h2 h3 = decodeExtend (dstCode h1) (srcCode h1) h2 := by
  rw [decode_fcvt (opField_of_opByte hop), subField_of_opByte hop]; rfl

theorem decodeExtend_reserved {ld ls : BitVec 4} {hw2 : Half} (h : hw2 ∉ extendCodes) :
    decodeExtend ld ls hw2 = .reserved .extendCode := by
  unfold decodeExtend
  split
  pick_goal -1
  · rfl
  all_goals exact absurd (by decide) h

theorem readBack_decodeExtend (hop : opByte h1 = 0xCE#8) :
    (decodeExtend (dstCode h1) (srcCode h1) h2).ReadBack h1 h2 h3 := by
  by_cases hmem : h2 ∈ extendCodes
  · have hlen := lengthOf_extend (h2 := h2) hop
    have hw := hwLL_fields hop
    have he (i : Instr) (hwf : i.wellFormed = true) (he : encode i = [hwLL 0xCE#8 (dstCode h1) (srcCode h1), h2]) :
        (Decoded.ok i).ReadBack h1 h2 h3 := ⟨hwf, by rw [he, hlen, hw]; rfl⟩
    fin_cases hmem <;> exact he _ rfl rfl
  · rw [decodeExtend_reserved hmem]; exact ⟨hop, hmem⟩

/-- The OP-code fields of formats Ln, LL, LR and PCrel, which bits 9 and 8 belong to (R146 to R149). -/
def dividedOps : List (BitVec 6) :=
  [0x20, 0x21, 0x22, 0x23, 0x30, 0x31, 0x32, 0x33, 0x34, 0x35, 0x36, 0x37, 0x38, 0x39, 0x3A, 0x3B, 0x3C, 0x3D, 0x3E, 0x3F]

theorem readBack_divided : ∀ op ∈ dividedOps, opField h1 = op → (decode h1 h2 h3).ReadBack h1 h2 h3 := by
  intro op hmem hop
  fin_cases hmem
  · rw [decode_shrd hop]
    exact .pick4 (fun h => .ln hop h rfl rfl rfl) (fun h => .ln hop h rfl rfl rfl)
      (fun h => .ll hop h rfl rfl rfl) (fun h => .ll hop h rfl rfl rfl)
  · rw [decode_sard hop]
    exact .pick4 (fun h => .ln hop h rfl rfl rfl) (fun h => .ln hop h rfl rfl rfl)
      (fun h => .ll hop h rfl rfl rfl) (fun h => .ll hop h rfl rfl rfl)
  · rw [decode_shld hop]
    exact .pick4 (fun h => .ln hop h rfl rfl rfl) (fun h => .ln hop h rfl rfl rfl)
      (fun h => .ll hop h rfl rfl rfl) (fun h => .ll hop h rfl rfl rfl)
  · rw [decode_testlz hop]
    exact .pick4 (fun h => .opcode hop h (by decide)) (fun h => .opcode hop h (by decide))
      (fun h => .ll hop h rfl rfl rfl) (fun h => .ll hop h rfl rfl rfl)
  · rw [decode_fadd hop]
    exact .pick4 (fun h => .ll hop h rfl rfl rfl) (fun h => .ll hop h rfl rfl rfl)
      (fun h => .ll hop h rfl rfl rfl) (fun h => .ll hop h rfl rfl rfl)
  · rw [decode_fmul hop]
    exact .pick4 (fun h => .ll hop h rfl rfl rfl) (fun h => .ll hop h rfl rfl rfl)
      (fun h => .ll hop h rfl rfl rfl) (fun h => .ll hop h rfl rfl rfl)
  · rw [decode_fcmp hop]
    exact .pick4 (fun h => .ll hop h rfl rfl rfl) (fun h => .ll hop h rfl rfl rfl)
      (fun h => .ll hop h rfl rfl rfl) (fun h => .ll hop h rfl rfl rfl)
  · rw [decode_fcvt hop]
    exact .pick4 (fun h => .ll hop h rfl rfl rfl) (fun h => .ll hop h rfl rfl rfl)
      (fun h => readBack_decodeExtend (opByte_of_fields hop h)) (fun h => .ll hop h rfl rfl rfl)
  · rw [decode_ldwR hop]
    exact .pick4 (fun h => .lr hop h rfl rfl rfl) (fun h => .lr hop h rfl rfl rfl)
      (fun h => .lr hop h rfl rfl rfl) (fun h => .lr hop h rfl rfl rfl)
  · rw [decode_ldwP hop]
    exact .pick4 (fun h => .lr hop h rfl rfl rfl) (fun h => .lr hop h rfl rfl rfl)
      (fun h => .lr hop h rfl rfl rfl) (fun h => .lr hop h rfl rfl rfl)
  · rw [decode_stwR hop]
    exact .pick4 (fun h => .lr hop h rfl rfl rfl) (fun h => .lr hop h rfl rfl rfl)
      (fun h => .lr hop h rfl rfl rfl) (fun h => .lr hop h rfl rfl rfl)
  · rw [decode_stwP hop]
    exact .pick4 (fun h => .lr hop h rfl rfl rfl) (fun h => .lr hop h rfl rfl rfl)
      (fun h => .lr hop h rfl rfl rfl) (fun h => .lr hop h rfl rfl rfl)
  · rw [decode_dbv hop]
    exact .pick4 (fun h => .rel hop h rfl rfl rfl) (fun h => .rel hop h rfl rfl rfl)
      (fun h => .rel hop h rfl rfl rfl) (fun h => .rel hop h rfl rfl rfl)
  · rw [decode_dbc hop]
    exact .pick4 (fun h => .rel hop h rfl rfl rfl) (fun h => .rel hop h rfl rfl rfl)
      (fun h => .rel hop h rfl rfl rfl) (fun h => .rel hop h rfl rfl rfl)
  · rw [decode_dbn hop]
    exact .pick4 (fun h => .rel hop h rfl rfl rfl) (fun h => .rel hop h rfl rfl rfl)
      (fun h => .rel hop h rfl rfl rfl) (fun h => .rel hop h rfl rfl rfl)
  · rw [decode_dbr hop]
    exact .pick4 (fun h => .rel hop h rfl rfl rfl) (fun h => .ll hop h rfl rfl rfl)
      (fun h => .lrConst hop h rfl rfl rfl) (fun h => .lrConst hop h rfl rfl rfl)
  · rw [decode_bv hop]
    exact .pick4 (fun h => .rel hop h rfl rfl rfl) (fun h => .rel hop h rfl rfl rfl)
      (fun h => .rel hop h rfl rfl rfl) (fun h => .rel hop h rfl rfl rfl)
  · rw [decode_bc hop]
    exact .pick4 (fun h => .rel hop h rfl rfl rfl) (fun h => .rel hop h rfl rfl rfl)
      (fun h => .rel hop h rfl rfl rfl) (fun h => .rel hop h rfl rfl rfl)
  · rw [decode_bn hop]
    exact .pick4 (fun h => .rel hop h rfl rfl rfl) (fun h => .rel hop h rfl rfl rfl)
      (fun h => .rel hop h rfl rfl rfl) (fun h => .rel hop h rfl rfl rfl)
  · rw [decode_br hop]
    exact .pick4 (fun h => .rel hop h rfl rfl rfl) (fun h => .trap hop h rfl (by decide))
      (fun h => .trap hop h rfl (by decide)) (fun h => .trap hop h rfl (by decide))

/-- Every OP-code is of one of the groups (R146 to R149). -/
theorem opField_groups (f : BitVec 6) :
    f ∈ rrOps ∨ f ∈ constOps ∨ f ∈ immOps ∨ f ∈ immCzOps ∨ f ∈ rnOps ∨ f ∈ disOps ∨ f ∈ nextOps ∨ f ∈ dividedOps ∨
      f = 0x00#6 ∨ f = 0x01#6 ∨ f = 0x04#6 ∨ f = 0x2E#6 ∨ f = 0x2B#6 := by
  revert f; decide

theorem readBack_reserved (hop : opField h1 = 0x2B#6) : (decode h1 h2 h3).ReadBack h1 h2 h3 := by
  have hmem : ∀ s : BitVec 2, 0x2B#6 ++ s ∈ [0x8C#8, 0x8D#8, 0xAC#8, 0xAD#8, 0xAE#8, 0xAF#8] := by decide
  rw [decode, hop]
  exact .opcode hop rfl (hmem _)

/-- One case per group of OP-codes; the two round trips and the list of refusals all follow from it. -/
theorem decode_readBack (h1 h2 h3 : Half) : (decode h1 h2 h3).ReadBack h1 h2 h3 := by
  rcases opField_groups (opField h1) with h | h | h | h | h | h | h | h | h | h | h | h | h
  · exact readBack_rr _ h rfl
  · exact readBack_const _ h rfl
  · exact readBack_imm _ h rfl
  · exact readBack_immCz _ h rfl
  · exact readBack_rn _ h rfl
  · exact readBack_dis _ h rfl
  · exact readBack_next _ h rfl
  · exact readBack_divided _ h rfl
  · exact readBack_chk h
  · exact readBack_movd h
  · exact readBack_index h
  · exact readBack_set h
  · exact readBack_reserved h

theorem encode_of_decode {i : Instr} (h : decode h1 h2 h3 = .ok i) :
    i.wellFormed = true ∧ encode i = [h1, h2, h3].take (lengthOf h1 h2) := by
  have hb := decode_readBack h1 h2 h3
  rwa [h] at hb

theorem reservedAs_of_decode {why : DecodeError} (h : decode h1 h2 h3 = .reserved why) : ReservedAs h1 h2 h3 why := by
  have hb := decode_readBack h1 h2 h3
  rwa [h] at hb

/-! ### The reserved encodings are refused -/

theorem decode_of_reservedAs {why : DecodeError} (h : ReservedAs h1 h2 h3 why) : decode h1 h2 h3 = .reserved why := by
  cases why with
  | opcode =>
    have hfields : ∀ b ∈ [0x8C#8, 0x8D#8, 0xAC#8, 0xAD#8, 0xAE#8, 0xAF#8], b.extractLsb' 2 6 = 0x2B#6 ∨
        b.extractLsb' 2 6 = 0x23#6 ∧ (b.extractLsb' 0 2).extractLsb' 1 1 = 0#1 := by decide
    have hf := opField_of_opByte (h := h1) rfl
    rcases hfields _ h with hop | ⟨hop, hsub⟩
    · rw [decode, hf, hop]; rfl
    · rw [decode_testlz (hf.trans hop), subField_of_opByte rfl, pick4_low hsub]
  | returnSource =>
    obtain ⟨hop, hpc, hs⟩ := h
    rw [decode_movd hop, decodeMovd, if_pos hpc, if_pos (Bool.or_eq_true_iff.mpr hs)]
  | indexOperand =>
    obtain ⟨hop, hbad⟩ := h
    rw [decode_index hop, decodeIndex]
    exact if_pos (by simp only [Bool.or_eq_true]; tauto)
  | nextAddressPcSr =>
    obtain ⟨hop | hop, hbad⟩ := h
    · rw [decode_loadNext hop, decodeLoadNext, if_pos (Bool.or_eq_true_iff.mpr hbad)]
    · rw [decode_storeNext hop, decodeStoreNext, if_pos (Bool.or_eq_true_iff.mpr hbad)]
  | dCode =>
    obtain ⟨hop | hop, hpc, hsr, hd, hl⟩ := h
    · rw [decode_loadNext hop, decodeLoadNext, hpc, hsr, hd, hl]; rfl
    · rw [decode_storeNext hop, decodeStoreNext, hpc, hsr, hd, hl]; rfl
  | setPc =>
    obtain ⟨hop, hpc⟩ := h
    rw [decode_set hop, regSlot_pc hpc]; rfl
  | fetchOdd =>
    obtain ⟨hop, hsr, hodd⟩ := h
    rw [decode_set hop, regSlot_sr hsr]; exact if_pos hodd
  | setCode =>
    obtain ⟨hop, hpc, hsr, hmem⟩ := h
    rw [decode_set hop]
    generalize countField h1 = n at hmem
    fin_cases hmem <;> (unfold decodeSet; rw [hpc, hsr]; rfl)
  | extendCode =>
    obtain ⟨hop, hmem⟩ := h
    rw [decode_extend hop, decodeExtend_reserved hmem]

end

/-- Settles O2, by what the decoder's answer has to be. -/
theorem encodeInvertsDecode : Obligations.EncodeInvertsDecode := fun _ _ _ _ => encode_of_decode

/-! ### The register operands in the words of the statement -/

theorem Reg.decode_eq_g (h : Half) (k : Nat) (code c : BitVec 4) :
    Reg.decode (h.extractLsb' k 1) code = .g c ↔ h.getLsbD k = false ∧ code = c := by
  have hbit : h.extractLsb' k 1 = BitVec.ofBool (h.getLsbD k) := BitVec.eq_of_getLsbD_eq fun i hi => by
    obtain rfl : i = 0 := Nat.lt_one_iff.mp hi
    simp
  rw [hbit, Reg.decode]
  cases h.getLsbD k <;> simp

theorem isPc_dstReg (h : Half) : (dstReg h).isPc = true ↔ h.getLsbD 9 = false ∧ h.extractLsb' 4 4 = 0 :=
  beq_iff_eq.trans (Reg.decode_eq_g ..)

theorem isSr_dstReg (h : Half) : (dstReg h).isSr = true ↔ h.getLsbD 9 = false ∧ h.extractLsb' 4 4 = 1 :=
  beq_iff_eq.trans (Reg.decode_eq_g ..)

theorem isPc_srcReg (h : Half) : (srcReg h).isPc = true ↔ h.getLsbD 8 = false ∧ h.extractLsb' 0 4 = 0 :=
  beq_iff_eq.trans (Reg.decode_eq_g ..)

theorem isSr_srcReg (h : Half) : (srcReg h).isSr = true ↔ h.getLsbD 8 = false ∧ h.extractLsb' 0 4 = 1 :=
  beq_iff_eq.trans (Reg.decode_eq_g ..)

/-- Settles O4: the reasons in the words of the statement are those of `ReservedAs`, which hold exactly of what is refused. -/
theorem reservedEncodingsRefused : Obligations.ReservedEncodingsRefused := by
  intro h1 h2 h3 op rdIs rsIs n low opcode returnSource indexOperand nextAddressPcSr dCode setPc fetchOdd setCode extendCode
  have rd0 : (dstReg h1).isPc = true ↔ rdIs 0 := isPc_dstReg h1
  have rd1 : (dstReg h1).isSr = true ↔ rdIs 1 := isSr_dstReg h1
  have rs0 : (srcReg h1).isPc = true ↔ rsIs 0 := isPc_srcReg h1
  have rs1 : (srcReg h1).isSr = true ↔ rsIs 1 := isSr_srcReg h1
  have hReturn : ReservedAs h1 h2 h3 .returnSource ↔ returnSource := by
    simp only [ReservedAs, rd0, rs0, rs1]; exact Iff.rfl
  have hIndex : ReservedAs h1 h2 h3 .indexOperand ↔ indexOperand := by
    simp only [ReservedAs, rd0, rd1, rs1]; exact Iff.rfl
  have hNext : ReservedAs h1 h2 h3 .nextAddressPcSr ↔ nextAddressPcSr := by
    simp only [ReservedAs, rd0, rd1]; exact Iff.rfl
  have hCode : ReservedAs h1 h2 h3 .dCode ↔ dCode := by
    simp only [ReservedAs, ← Bool.not_eq_true, rd0, rd1]; exact Iff.rfl
  have hPc : ReservedAs h1 h2 h3 .setPc ↔ setPc := by
    simp only [ReservedAs, rd0]; exact Iff.rfl
  have hOdd : ReservedAs h1 h2 h3 .fetchOdd ↔ fetchOdd := by
    simp only [ReservedAs, rd1]; exact Iff.rfl
  have hSet : ReservedAs h1 h2 h3 .setCode ↔ setCode := by
    simp only [ReservedAs, ← Bool.not_eq_true, rd0, rd1]; exact Iff.rfl
  refine ⟨fun h => decode_of_reservedAs (why := .opcode) h, fun h => decode_of_reservedAs (hReturn.mpr h),
    fun h => decode_of_reservedAs (hIndex.mpr h), fun h => decode_of_reservedAs (hNext.mpr h),
    fun h => decode_of_reservedAs (hCode.mpr h), fun h => decode_of_reservedAs (hPc.mpr h),
    fun h => decode_of_reservedAs (hOdd.mpr h), fun h => decode_of_reservedAs (hSet.mpr h),
    fun h => decode_of_reservedAs (why := .extendCode) h, fun why h => ?_⟩
  have hwhy := reservedAs_of_decode h
  cases why with
  | opcode => exact .inl hwhy
  | returnSource => exact .inr <| .inl <| hReturn.mp hwhy
  | indexOperand => exact .inr <| .inr <| .inl <| hIndex.mp hwhy
  | nextAddressPcSr => exact .inr <| .inr <| .inr <| .inl <| hNext.mp hwhy
  | dCode => exact .inr <| .inr <| .inr <| .inr <| .inl <| hCode.mp hwhy
  | setPc => exact .inr <| .inr <| .inr <| .inr <| .inr <| .inl <| hPc.mp hwhy
  | fetchOdd => exact .inr <| .inr <| .inr <| .inr <| .inr <| .inr <| .inl <| hOdd.mp hwhy
  | setCode => exact .inr <| .inr <| .inr <| .inr <| .inr <| .inr <| .inr <| .inl <| hSet.mp hwhy
  | extendCode => exact .inr <| .inr <| .inr <| .inr <| .inr <| .inr <| .inr <| .inr hwhy

/-! ### Immediates (R145) -/

theorem Imm.decode_short {n : BitVec 5} (h2 h3 : Half) (h17 : n ≠ 17#5) (h18 : n ≠ 18#5) (h19 : n ≠ 19#5) :
    Imm.decode n h2 h3 = .short n := by
  rw [Imm.decode, if_neg h17, if_neg h18, if_neg h19]

/-- The rows of the table without further half-words. -/
theorem immValue_short_small : ∀ n : BitVec 5, n.toNat ≤ 16 →
    immValue (.short n) = BitVec.ofNat 32 n.toNat ∧ immMaskValue (.short n) = BitVec.ofNat 32 n.toNat := by decide

theorem immValue_short_negative : ∀ n : BitVec 5, 24 ≤ n.toNat → n.toNat ≤ 30 →
    immValue (.short n) = BitVec.ofInt 32 (n.toNat - 32) ∧ immMaskValue (.short n) = BitVec.ofInt 32 (n.toNat - 32) := by
  decide

/-- An instruction with an immediate sees its length and its value alone. -/
theorem exec_imm_congr {i j : Imm} (rd : Reg) (s : State) (hlen : immLength j = immLength i) (hval : immValue j = immValue i) :
    exec (.cmpi rd j) s = exec (.cmpi rd i) s ∧ exec (.movi rd j) s = exec (.movi rd i) s ∧
      exec (.addi rd j) s = exec (.addi rd i) s ∧ exec (.addsi rd j) s = exec (.addsi rd i) s ∧
      exec (.ori rd j) s = exec (.ori rd i) s ∧ exec (.xori rd j) s = exec (.xori rd i) s := by
  simp only [exec_cmpi, exec_movi, exec_addi, exec_addsi, exec_ori, exec_xori, execCmpi, execMovi, execAddi, execAddsi, execOri,
    execXori, hlen, hval, and_self]

theorem exec_immMask_congr {i j : Imm} (rd : Reg) (s : State) (hlen : immLength j = immLength i)
    (hval : immMaskValue j = immMaskValue i) :
    exec (.cmpbi rd j) s = exec (.cmpbi rd i) s ∧ exec (.andni rd j) s = exec (.andni rd i) s := by
  simp only [exec_cmpbi, exec_andni, execCmpbi, execAndni, hlen, hval, and_self]

theorem lengthOf_hwRn {op : BitVec 6} (rd : Reg) (n : BitVec 5) (h2 h3 : Half) (hop : ∀ s : BitVec 2, immOp (op ++ s) = true) :
    lengthOf (hwRn op rd n) h2 = immLength (Imm.decode n h2 h3) := by
  have hn : countField (hwRn op rd n) = n := (countField_firstHalf ..).trans (count_split n)
  have hlen := lengthOf_immField (h1 := hwRn op rd n) (h2 := h2) (opField_firstHalf ..) hop
  rw [immLength_decode, hlen, hn]

/-- Which instruction has the operand of the table (R145). -/
theorem decode_imm (n : BitVec 5) (h2 h3 : Half) (rd : Reg) :
    let imm := Imm.decode n h2 h3
    decode (hwRn 0x18#6 rd n) h2 h3 = .ok (.cmpi rd imm) ∧ decode (hwRn 0x19#6 rd n) h2 h3 = .ok (.movi rd imm) ∧
      decode (hwRn 0x1A#6 rd n) h2 h3 = .ok (if n = 0 then .addiCz rd else .addi rd imm) ∧
      decode (hwRn 0x1B#6 rd n) h2 h3 = .ok (if n = 0 then .addsiCz rd else .addsi rd imm) ∧
      decode (hwRn 0x1C#6 rd n) h2 h3 = .ok (if n = 0 then .cmpbiAnybz rd else .cmpbi rd imm) ∧
      decode (hwRn 0x1D#6 rd n) h2 h3 = .ok (.andni rd imm) ∧ decode (hwRn 0x1E#6 rd n) h2 h3 = .ok (.ori rd imm) ∧
      decode (hwRn 0x1F#6 rd n) h2 h3 = .ok (.xori rd imm) := by
  refine ⟨?_, ?_, ?_, ?_, ?_, ?_, ?_, ?_⟩ <;>
  exact decode_hwRn fun h1 hop hd hn => by rw [decode, hop, hd, hn]; rfl

/-- The instructions whose n is a number or a code of its own (R143, R148). -/
theorem decode_count (n : BitVec 5) (h2 h3 : Half) (rd : Reg) :
    decode (hwRn 0x28#6 rd n) h2 h3 = .ok (.shri rd n) ∧ decode (hwRn 0x29#6 rd n) h2 h3 = .ok (.sari rd n) ∧
      decode (hwRn 0x2A#6 rd n) h2 h3 = .ok (.shli rd n) ∧
      (∀ ld, decode (hwLn 0x40#7 ld n) h2 h3 = .ok (.shrdi ld n) ∧ decode (hwLn 0x42#7 ld n) h2 h3 = .ok (.sardi ld n) ∧
        decode (hwLn 0x44#7 ld n) h2 h3 = .ok (.shldi ld n)) ∧
      decode (hwRn 0x2E#6 rd n) h2 h3 = decode (hwRn 0x2E#6 rd n) 0 0 := by
  refine ⟨?_, ?_, ?_, fun ld => ⟨?_, ?_, ?_⟩, ?_⟩
  · exact decode_hwRn fun h1 hop hd hn => by rw [decode, hop, hd, hn]; rfl
  · exact decode_hwRn fun h1 hop hd hn => by rw [decode, hop, hd, hn]; rfl
  · exact decode_hwRn fun h1 hop hd hn => by rw [decode, hop, hd, hn]; rfl
  · exact decode_hwLn fun h1 hop hsub hd hn => by rw [decode_shrd hop, hd, hn]; exact pick4_low hsub ..
  · exact decode_hwLn fun h1 hop hsub hd hn => by rw [decode_sard hop, hd, hn]; exact pick4_low hsub ..
  · exact decode_hwLn fun h1 hop hsub hd hn => by rw [decode_shld hop, hd, hn]; exact pick4_low hsub ..
  · have hop : opField (hwRn 0x2E#6 rd n) = 0x2E#6 := opField_firstHalf ..
    exact (decode_set hop).trans (decode_set hop).symm

/-- Settles O5, row by row of the table; the decoding and the congruence of the users are the lemmas above. -/
theorem immediateTable : Obligations.ImmediateTable := by
  intro n h2 h3 rd imm is
  have short (h17 : n ≠ 17#5) (h18 : n ≠ 18#5) (h19 : n ≠ 19#5) : imm = .short n := Imm.decode_short h2 h3 h17 h18 h19
  have himm : ∀ op ∈ [0x18#6, 0x19#6, 0x1A#6, 0x1B#6, 0x1C#6, 0x1D#6, 0x1E#6, 0x1F#6], ∀ s : BitVec 2, immOp (op ++ s) = true := by
    decide
  refine ⟨fun hn => ?_, ?_, ?_, ?_, ?_, ?_, ?_, ?_, fun hlo hhi => ?_, ?_, fun op hop => lengthOf_hwRn rd n h2 h3 (himm op hop),
    decode_imm n h2 h3 rd, fun j s hlen => ⟨exec_immMask_congr rd s hlen, exec_imm_congr rd s hlen⟩, decode_count n h2 h3 rd⟩
  · obtain ⟨hv, hm⟩ := immValue_short_small n hn
    show immValue imm = _ ∧ immMaskValue imm = _ ∧ immLength imm = _
    rw [short (by bv_omega) (by bv_omega) (by bv_omega)]
    exact ⟨hv, hm, rfl⟩
  · rintro rfl; exact ⟨rfl, rfl, rfl⟩
  · rintro rfl; exact ⟨(zero_append_eq_setWidth h2).symm, (zero_append_eq_setWidth h2).symm, rfl⟩
  · rintro rfl; exact ⟨rfl, rfl, rfl⟩
  · rintro rfl; exact ⟨rfl, rfl, rfl⟩
  · rintro rfl; exact ⟨rfl, rfl, rfl⟩
  · rintro rfl; exact ⟨rfl, rfl, rfl⟩
  · rintro rfl; exact ⟨rfl, rfl, rfl⟩
  · obtain ⟨hv, hm⟩ := immValue_short_negative n hlo hhi
    show immValue imm = _ ∧ immMaskValue imm = _ ∧ immLength imm = _
    rw [short (by bv_omega) (by bv_omega) (by bv_omega)]
    exact ⟨hv, hm, rfl⟩
  · rintro rfl; exact ⟨rfl, rfl, rfl⟩

end Sys2Proof

/-! ## The invariant, kept by what happens between instructions (10_state R22, R65, R71, R75, 20_memory R90, R114) -/

namespace Sys2Proof.Machine

/-! ### Even addresses -/

theorem evenAddress_even (a : Word) : (evenAddress a).getLsbD 0 = false := by
  rw [evenAddress, BitVec.getLsbD_and]; exact Bool.and_false _

/-- The PC stays even when an instruction of `len` half-words begins. -/
theorem State.nextPc_even {s : State} (len : Nat) (h : s.pc.getLsbD 0 = false) : (s.nextPc len).getLsbD 0 = false := by
  unfold State.nextPc
  split
  · exact h
  · exact getLsbD_zero_add_even h len

/-! ### Cells -/

/-- An area that begins at a cell has no more cells than there are addresses from there on (20 R96, R98). -/
theorem Area.base_add_visibleSize_le (area : Area) (p : Platform) (mcr : Word) : area.base + p.visibleSize mcr area ≤ 2 ^ 32 := by
  have hpins : 2 ^ p.variant.addressPins ≤ 2 ^ 26 :=
    Nat.pow_le_pow_right (by decide) (by cases p.variant <;> simp [Variant.addressPins])
  unfold Platform.visibleSize
  cases area <;> simp [Area.base]
  case mem0 => split <;> omega
  all_goals omega

theorem Platform.visibleSize_pos (p : Platform) (mcr : Word) (area : Area) : 0 < p.visibleSize mcr area := by
  unfold Platform.visibleSize
  split
  · decide
  · split
    · decide
    · exact Nat.two_pow_pos _

/-- Every address reaches a cell that is an address (20 R90, R98). -/
theorem State.cellOf_lt (s : State) (a : Word) : s.cellOf a < 2 ^ 32 := by
  have hoffset : s.busOffset a < s.platform.visibleSize s.bus.mcr (areaOf a) := Nat.mod_lt _ (Platform.visibleSize_pos ..)
  have hsize := (areaOf a).base_add_visibleSize_le s.platform s.bus.mcr
  have hmod := Nat.mod_le (s.busOffset a) (s.areaMap (areaOf a)).wrap
  unfold State.cellOf
  omega

/-- Every listed cell is an address. -/
def State.memInside (s : State) : Prop := ∀ x ∈ s.mem, x.1 < 2 ^ 32

theorem State.writeByte_memInside {s : State} (a : Word) (b : Byte) (h : s.memInside) : (s.writeByte a b).memInside := by
  unfold State.writeByte
  split
  · intro x hx
    rcases Memory.mem_set hx with hx | hx
    · exact h x hx
    · rw [hx]; exact s.cellOf_lt a
  · exact h

theorem State.store_memInside {s : State} (z : Size) (a v : Word) (h : s.memInside) : (s.store z a v).memInside := by
  unfold State.store State.writeBytes
  generalize List.range z.bytes = l
  induction l generalizing s with
  | nil => exact h
  | cons k l ih => exact ih (State.writeByte_memInside _ _ h)

/-! ### What the invariant looks at -/

section

variable {s t u : State}

/-- A state that has the PC, the delay, lockout and power states, memory, timer and cache of one with the invariant. -/
theorem State.Inv.of_frame (h : s.Inv)
    (hf : t = { s with sr := t.sr, g := t.g, locals := t.locals, sp := t.sp, ub := t.ub, fcr := t.fcr, io3 := t.io3, bus := t.bus,
                       eovPending := t.eovPending, parityPending := t.parityPending, pins := t.pins, parityLines := t.parityLines,
                       schedule := t.schedule, ioLog := t.ioLog, draws := t.draws }) : t.Inv := by
  rw [hf]
  exact ⟨h.pcEven, h.slotEven, h.memCanonical, h.memInside, h.tprWaits, h.prescalerInUnit, h.asleepClear, h.cacheBounded⟩

/-- What the timer keeps to (10_state R71, 61 R521, R522). -/
structure Timer.InUnit (t : Timer) : Prop where
  waits : ∀ v, t.tprPending = some v → v.getLsbD 31 = true
  counts : t.prescaler < timeUnit t.tpr

theorem State.Inv.timerInUnit (h : s.Inv) : s.timer.InUnit := ⟨h.tprWaits, h.prescalerInUnit⟩

theorem State.Inv.with_timer (h : s.Inv) {t : Timer} (ht : t.InUnit) : ({ s with timer := t } : State).Inv :=
  { h with tprWaits := ht.waits, prescalerInUnit := ht.counts }

theorem State.Inv.with_cache (h : s.Inv) {c : Cache} (hc : c.wf = true) : ({ s with cache := c } : State).Inv :=
  { h with cacheBounded := hc }

theorem State.Inv.with_running (h : s.Inv) : ({ s with power := .running } : State).Inv :=
  { h with asleepClear := fun hp => absurd rfl hp }

/-! ### The devices -/

theorem timeUnit_pos (tpr : Word) : 0 < timeUnit tpr := Nat.succ_pos _

/-- A waiting TPR, and the count within the unit, through one processor cycle (61 R521, R522). -/
theorem Timer.cycle_inUnit {t : Timer} (h : t.InUnit) : t.cycle.InUnit := by
  unfold Timer.cycle
  split
  · exact ⟨h.waits, by assumption⟩
  · exact ⟨fun v hv => (by cases hv), timeUnit_pos _⟩

theorem Timer.writeTpr_inUnit {t : Timer} (v : Word) (h : t.InUnit) : (t.writeTpr v).InUnit := by
  unfold Timer.writeTpr
  split
  · exact ⟨fun w hw => by cases hw; assumption, h.counts⟩
  · exact ⟨h.waits, timeUnit_pos _⟩

theorem Timer.afterReset_inUnit {t : Timer} (c : ResetCause) (tr tcr : Word) (h : t.InUnit) : (t.afterReset c tr tcr).InUnit := by
  unfold Timer.afterReset
  split
  · exact ⟨h.waits, h.counts⟩
  · exact ⟨fun v hv => (by cases hv), timeUnit_pos _⟩

theorem State.Inv.io3Sample (h : s.Inv) : s.io3Sample.Inv :=
  h.of_frame (by rw [io3Sample_frame])

theorem State.Inv.clockCycles (k : Nat) (h : s.Inv) : (State.clockCycles k s).1.Inv := by
  induction k generalizing s with
  | zero => exact h
  | succ k ih => exact ih (h.with_timer (Timer.cycle_inUnit h.timerInUnit)).io3Sample

theorem State.Inv.clock (k : Nat) (h : s.Inv) : (s.clock k).1.Inv := h.io3Sample.clockCycles k

/-! ### Exceptions and resets -/

/-- The entry of an exception (60 R470). -/
theorem State.Inv.enterException (h : s.Inv) (entry ret : Word) (i : Bool) : (s.enterException entry ret i).Inv :=
  { h with
    pcEven := evenAddress_even entry
    slotEven := fun a ha => by cases ha
    asleepClear := fun _ => ⟨rfl, rfl⟩
    cacheBounded := Cache.flush_wf _ _ }

theorem State.Inv.takeException (h : s.Inv) {n : BitVec 6} {ret : Word} {i : Bool} (ht : s.takeException n ret i = .next t) : t.Inv := by
  obtain ⟨e, -, rfl⟩ := takeException_inv ht
  exact h.enterException e ret i

/-- A reset for any cause (10_state R76, 60 R473). -/
theorem State.Inv.resetException (h : s.Inv) (c : ResetCause) : (s.resetException c).Inv where
  pcEven := (by decide : (0xFFFFFFF8 : Word).getLsbD 0 = false)
  slotEven := fun a ha => by cases ha
  memCanonical := State.resetException_wf c h.memCanonical
  memInside := fun x hx => by
    have hx : x ∈ memAfterReset s.mem s.bus.mcr c := hx
    unfold memAfterReset at hx
    split at hx
    · exact h.memInside x (List.mem_of_mem_filter hx)
    · exact h.memInside x hx
  tprWaits := (Timer.afterReset_inUnit c _ _ h.timerInUnit).waits
  prescalerInUnit := (Timer.afterReset_inUnit c _ _ h.timerInUnit).counts
  asleepClear := fun hp => absurd rfl hp
  cacheBounded := Cache.flush_wf _ _

/-! ### The boundary (60 R480) -/

theorem State.Inv.wakened (h : s.Inv) : s.wakened.Inv := by
  unfold State.wakened
  split
  · exact h.with_running
  · exact h

theorem State.Inv.asynchronous (h : s.Inv) (ha : s.asynchronous = some (.next t)) : t.Inv := by
  unfold State.asynchronous at ha
  split at ha
  · cases ha
  · split at ha
    · exact (h.of_frame rfl : ({ s with eovPending := false } : State).Inv).takeException (Option.some.inj ha)
    · split at ha
      · exact (h.of_frame rfl : ({ s with parityPending := false } : State).Inv).takeException (Option.some.inj ha)
      · split at ha
        · exact h.takeException (Option.some.inj ha)
        · cases ha

theorem State.Inv.trace (h : s.Inv) (ht : s.trace = .next t) : t.Inv := by
  unfold State.trace at ht
  split at ht
  · exact h.takeException ht
  · cases ht; exact h

theorem State.Inv.boundary (h : s.Inv) (hb : s.boundary = .next t) : t.Inv := by
  unfold State.boundary at hb
  split at hb
  · cases hb; exact h
  · split at hb
    · rename_i hx; subst hb; exact h.wakened.asynchronous hx
    · exact h.wakened.trace hb

/-- The devices run, then comes the watchdog's reset or the boundary. -/
theorem State.Inv.elapse (h : s.Inv) {k : Nat} (he : s.elapse k = .next t) : t.Inv := by
  unfold State.elapse at he
  split at he
  · cases he; exact (h.clock k).resetException .watchdog
  · exact (h.clock k).boundary he

/-- A step in power-down (61 R541). -/
theorem State.Inv.idle (h : s.Inv) {k : Nat} (he : s.idle k = .next t) : t.Inv := by
  unfold State.idle at he
  split at he
  · cases he; exact (h.clock k).resetException .watchdog
  · split at he
    · exact (h.clock k).with_running.boundary he
    · cases he; exact h.clock k

/-! ### Before an instruction -/

theorem State.Inv.sense (h : s.Inv) : s.sense.Inv := h.of_frame rfl

/-- Loading the cache further (20 R115). -/
theorem State.LoadedTo.inv (hl : s.LoadedTo t) (h : s.Inv) : t.Inv :=
  (h.with_cache (hl.wf h.cacheBounded)).of_frame (by rw [hl.frame])

/-- The state of an instruction that has been begun: no delay instruction and no lockout is owed (10_state R65, R66). -/
theorem State.Inv.underway (h : s.Inv) (len k : Nat) (f : Flags) : (s.underway len k f).Inv :=
  { h with
    pcEven := State.nextPc_even len h.pcEven
    slotEven := fun a ha => by cases ha
    asleepClear := fun _ => ⟨rfl, rfl⟩ }

end

/-- Settles O9, field by field of the invariant. -/
theorem resetHasInvariant : Obligations.ResetHasInvariant where
  pcEven := by decide
  slotEven := fun a ha => by cases ha
  memCanonical := State.reset_mem_wf
  memInside := fun x hx => by cases hx
  tprWaits := fun v hv => by cases hv
  prescalerInUnit := by decide
  asleepClear := fun hp => absurd rfl hp
  cacheBounded := by decide

end Sys2Proof.Machine

/-! ## What an instruction at work keeps: the invariant, P and H (10_state R32, R40) -/

namespace Sys2Proof.Machine

/-- An instruction is at work: the state is one that the machine can be in, and no delay instruction and no lockout is owed. -/
structure State.AtWork (s : State) : Prop where
  inv : s.Inv
  delay : s.delay = .none
  lockout : s.callLockout = false

/-- An instruction has come from `s` to `t` in the middle of its work: nothing that the invariant says has been broken, P is as it was, and H
has not been set but where a result has been placed in the SR, which is the case only under `toSr`. -/
structure State.WorksTo (toSr : Prop) (s t : State) : Prop where
  atWork : s.AtWork → t.AtWork
  p : t.sr.p = s.sr.p
  h : t.sr.h = true → s.sr.h = true ∨ toSr

section

variable {P : Prop} {s t u : State}

theorem State.WorksTo.refl (s : State) : s.WorksTo P s := ⟨id, rfl, .inl⟩

theorem State.WorksTo.trans (h : s.WorksTo P t) (h' : t.WorksTo P u) : s.WorksTo P u :=
  ⟨h'.atWork ∘ h.atWork, h'.p.trans h.p, fun hu => (h'.h hu).elim h.h .inr⟩

/-- Nothing has changed but registers, the SR without P and H, I/O accesses and pended conditions. -/
theorem State.WorksTo.of_registers
    (hf : t = { s with sr := { t.sr with p := s.sr.p, h := s.sr.h }, g := t.g, locals := t.locals, sp := t.sp, ub := t.ub, fcr := t.fcr,
                       io3 := t.io3, bus := t.bus, eovPending := t.eovPending, parityPending := t.parityPending, ioLog := t.ioLog,
                       draws := t.draws }) : s.WorksTo P t where
  atWork := fun hw => ⟨hw.inv.of_frame (by rw [hf]), by rw [hf]; exact hw.delay, by rw [hf]; exact hw.lockout⟩
  p := by rw [hf]
  h := fun ht => .inl (by rw [hf] at ht; exact ht)

/-- A branch: moreover the PC and the cache have changed. -/
theorem State.WorksTo.of_branch
    (hf : t = { s with pc := t.pc, cache := t.cache, sr := { t.sr with p := s.sr.p, h := s.sr.h }, locals := t.locals, draws := t.draws })
    (hpc : t.pc.getLsbD 0 = false) (hc : s.cache.wf = true → t.cache.wf = true) : s.WorksTo P t where
  atWork := fun hw => by
    have hi : t.Inv := by
      rw [hf]; exact { hw.inv with pcEven := hpc, cacheBounded := hc hw.inv.cacheBounded }
    exact ⟨hi, by rw [hf]; exact hw.delay, by rw [hf]; exact hw.lockout⟩
  p := by rw [hf]
  h := fun ht => .inl (by rw [hf] at ht; exact ht)

/-! ### Registers and results -/

theorem State.drawn_works (s : State) (k : Nat) : s.WorksTo P (s.drawn k) := .of_registers rfl

theorem State.writeSr_works (s : State) (v : Word) (hs : P) : s.WorksTo P (s.writeSr v).1 where
  atWork := fun hw => ⟨hw.inv.of_frame rfl, hw.delay, hw.lockout⟩
  p := rfl
  h := fun _ => .inr hs

theorem State.branchTo_works (s : State) (a : Word) : s.WorksTo P (s.branchTo a) :=
  .of_branch rfl (evenAddress_even a) fun _ => Cache.flush_wf _ _

theorem State.writeSlot_works (s : State) (v : Word) {x : Slot} (hs : x = .sr → P) : s.WorksTo P (s.writeSlot v x) := by
  cases x with
  | loc k => exact .of_registers rfl
  | pc => exact .of_branch rfl (evenAddress_even v) id
  | sr => exact s.writeSr_works v (hs rfl)
  | glob c => exact .of_registers rfl

theorem writeResult_works {rd : Reg} {v : Word} {f : Flags} {e : Bool} (h : s.writeResult rd v f = .next (u, e))
    (hs : rd = .g 1 → P) : s.WorksTo P u := by
  unfold State.writeResult at h
  split at h
  · cases h; exact .of_registers rfl
  · cases h; exact .of_registers rfl
  · rename_i hr
    obtain ⟨rfl, -⟩ := Prod.mk.inj (Host.Outcome.next.inj h)
    exact s.writeSr_works v (hs (regSlot_eq_sr hr))
  · cases h

theorem writeOrBranch_works {rd : Reg} {v : Word} {f : Flags} {e : Bool} (h : s.writeOrBranch rd v f = .next (u, e))
    (hs : rd = .g 1 → P) : s.WorksTo P u := by
  unfold State.writeOrBranch at h
  split at h
  · cases h
    exact (State.WorksTo.of_registers rfl : s.WorksTo P (s.setFlags f)).trans (State.branchTo_works _ v)
  · exact writeResult_works h hs

/-- The register following Rd is the SR only where Rd is the PC, which takes no result. -/
theorem writePair_works {rd : Reg} {hi lo : Word} {f : Flags} {e : Bool} (h : s.writePair rd hi lo f = .next (u, e))
    (hs : rd = .g 1 → P) : s.WorksTo P u := by
  obtain ⟨rdf, hf, h⟩ := withFollower_inv h
  obtain ⟨⟨t, e'⟩, ht, h⟩ := andThen_inv h
  cases h
  refine (writeResult_works ht hs).trans (t.writeSlot_works lo fun hx => ?_)
  subst hx
  cases regSlot_pc (followSlot_sr hf)
  cases ht

/-! ### Memory (20_memory R104) -/

theorem State.written_memWf {z : Size} {a v : Word} (h : s.memWf = true) : (s.written z a v).memWf = true := by
  unfold State.written
  split
  · rw [State.sdramConfig_frame]; exact h
  · exact State.store_wf z a v h

theorem State.written_memInside {z : Size} {a v : Word} (h : s.memInside) : (s.written z a v).memInside := by
  unfold State.written
  split
  · rw [State.sdramConfig_frame]; exact h
  · exact State.store_memInside z a v h

theorem State.written_works (s : State) (z : Size) (a v : Word) : s.WorksTo P (s.written z a v) where
  atWork := fun hw => by
    have hwf := State.written_memWf (z := z) (a := a) (v := v) hw.inv.memCanonical
    have hin := State.written_memInside (z := z) (a := a) (v := v) hw.inv.memInside
    rw [written_frame] at hwf hin ⊢
    exact ⟨{ hw.inv with memCanonical := hwf, memInside := hin }, hw.delay, hw.lockout⟩
  p := by rw [written_frame]
  h := fun ht => .inl (by rw [written_frame] at ht; exact ht)

theorem memWrite_works {z : Size} {a v : Word} (h : s.memWrite z a v = .next t) : s.WorksTo P t := by
  obtain ⟨-, rfl⟩ := memWrite_inv h
  exact s.written_works z a v

theorem memRead_works {z : Size} {a v : Word} (h : s.memRead z a = .next (v, t)) : s.WorksTo P t := by
  obtain ⟨-, -, rfl⟩ := memRead_inv h
  exact .of_registers rfl

theorem stackRead_works {a v : Word} (h : s.stackRead a = .next (v, t)) : s.WorksTo P t := by
  rcases stackRead_inv h with ⟨-, h⟩ | ⟨-, -, rfl⟩
  · exact memRead_works h
  · exact .refl _

theorem stackWrite_works {a v : Word} (h : s.stackWrite a v = .next t) : s.WorksTo P t := by
  rcases stackWrite_inv h with ⟨-, h⟩ | ⟨-, rfl⟩
  · exact memWrite_works h
  · exact .of_registers rfl

theorem ioRead_works {a v : Word} (h : s.ioRead a = .next (v, t)) : s.WorksTo P t := by
  rcases ioRead_inv h with ⟨-, rfl⟩ | ⟨-, rfl⟩ <;> exact .of_registers rfl

/-- A store to a power address stops the processor with nothing owed. -/
theorem State.power_works (s : State) (p : Power) : s.WorksTo P { s with power := p } where
  atWork := fun hw => ⟨{ hw.inv with asleepClear := fun _ => ⟨hw.delay, hw.lockout⟩ }, hw.delay, hw.lockout⟩
  p := rfl
  h := .inl

theorem ioWrite_works {a v : Word} (h : s.ioWrite a v = .next t) : s.WorksTo P t := by
  rcases ioWrite_inv h with rfl | rfl | rfl
  · exact .of_registers rfl
  · exact s.power_works _
  · exact s.power_works _

/-! ### High global registers (41 R243) -/

theorem readHigh_works {c : BitVec 4} {v : Word} (h : s.readHigh c = .next (v, t)) : s.WorksTo P t := by
  unfold State.readHigh at h
  split at h <;> cases h <;> exact .of_registers rfl

theorem State.timer_works (s : State) {t : Timer} (ht : s.timer.InUnit → t.InUnit) : s.WorksTo P { s with timer := t } where
  atWork := fun hw => ⟨hw.inv.with_timer (ht hw.inv.timerInUnit), hw.delay, hw.lockout⟩
  p := rfl
  h := .inl

theorem writeHigh_works {c : BitVec 4} {v : Word} (h : s.writeHigh c v = .next t) : s.WorksTo P t := by
  unfold State.writeHigh at h
  split at h <;> cases h
  case h_4 => exact s.timer_works (Timer.writeTpr_inUnit v)
  case h_5 => exact s.timer_works fun ht => ⟨ht.waits, ht.counts⟩
  case h_6 => exact s.timer_works fun ht => ⟨ht.waits, ht.counts⟩
  all_goals exact .of_registers rfl

/-! ### Pushing and pulling (45 R371, R382) -/

theorem push_works {k : Nat} (h : s.push k = .next t) : s.WorksTo P t := by
  induction k generalizing s with
  | zero => cases h; exact .refl _
  | succ k ih =>
    obtain ⟨x, hx, h⟩ := andThen_inv h
    have hsp : x.WorksTo P { x with sp := s.sp + 4 } := .of_registers rfl
    exact (memWrite_works hx).trans (hsp.trans (ih h))

theorem pull_works {k : Nat} (h : s.pull k = .next t) : s.WorksTo P t := by
  induction k generalizing s with
  | zero => cases h; exact .refl _
  | succ k ih =>
    obtain ⟨⟨v, x⟩, hx, h⟩ := andThen_inv h
    have hsp : x.WorksTo P (({ x with sp := s.sp - 4 } : State).writeAbsolute (s.sp - 4) v) := .of_registers rfl
    exact (memRead_works hx).trans (hsp.trans (ih h))

/-! ### Loads and stores (40 R175 to R193) -/

theorem loadWord_works {ty : DataType} {b a v : Word} (h : s.loadWord ty b a = .next (v, t)) : s.WorksTo P t := by
  unfold State.loadWord at h
  split at h
  · cases h
  · obtain ⟨⟨w, x⟩, hx, h⟩ := andThen_inv h
    cases h; exact memRead_works hx

/-- A word loaded in Rs, which is not the SR (93 U30). -/
theorem writeLoaded_works {rs : Reg} (s : State) (v : Word) (hrs : rs.notPcSr = true) : s.WorksTo P (s.writeSlot v (regSlot rs)) :=
  s.writeSlot_works v fun hs => absurd hs (regSlot_ne_sr hrs)

theorem writeLoadedPair_works {rs : Reg} {v vf : Word} {x : Slot} (hrs : rs.notPcSr = true) (hx : followSlot rs = some x) :
    s.WorksTo P ((s.writeSlot v (regSlot rs)).writeSlot vf x) :=
  (writeLoaded_works s v hrs).trans (State.writeSlot_works _ vf fun hs => absurd hs (followSlot_ne_sr hrs hx))

theorem loadMemory_works {ty : DataType} {b a : Word} {rs : Reg} (hrs : rs.notPcSr = true)
    (h : s.loadMemory ty b a rs = .next t) : s.WorksTo P t := by
  obtain ⟨⟨v, x⟩, hx, h⟩ := andThen_inv h
  dsimp only at h
  split at h
  · obtain ⟨rsf, hr, h⟩ := withFollower_inv h
    obtain ⟨⟨vf, y⟩, hy, h⟩ := andThen_inv h
    cases h
    exact (loadWord_works hx).trans ((loadWord_works hy).trans (writeLoadedPair_works hrs hr))
  · cases h
    exact (loadWord_works hx).trans (writeLoaded_works _ v hrs)

theorem loadIo_works {d : Bool} {a : Word} {rs : Reg} (hrs : rs.notPcSr = true) (h : s.loadIo d a rs = .next t) :
    s.WorksTo P t := by
  obtain ⟨⟨v, x⟩, hx, h⟩ := andThen_inv h
  dsimp only at h
  split at h
  · obtain ⟨rsf, hr, h⟩ := withFollower_inv h
    obtain ⟨⟨vf, y⟩, hy, h⟩ := andThen_inv h
    cases h
    exact (ioRead_works hx).trans ((ioRead_works hy).trans (writeLoadedPair_works hrs hr))
  · cases h
    exact (ioRead_works hx).trans (writeLoaded_works _ v hrs)

theorem storeWord_works {ty : DataType} {b a v : Word} (h : s.storeWord ty b a v = .next t) : s.WorksTo P t := by
  unfold State.storeWord at h
  split at h
  · cases h
  · exact memWrite_works h

theorem storeMemory_works {ty : DataType} {b a v vf : Word} (h : s.storeMemory ty b a v vf = .next t) : s.WorksTo P t := by
  obtain ⟨x, hx, h⟩ := andThen_inv h
  split at h
  · exact (storeWord_works hx).trans (storeWord_works h)
  · cases h; exact storeWord_works hx

theorem storeIo_works {d : Bool} {a v vf : Word} (h : s.storeIo d a v vf = .next t) : s.WorksTo P t := by
  obtain ⟨x, hx, h⟩ := andThen_inv h
  split at h
  · exact (ioWrite_works hx).trans (ioWrite_works h)
  · cases h; exact ioWrite_works hx

end

/-! ### How an instruction ends -/

/-- An instruction begun at `s` by a running processor reaches `u`: the invariant holds there, P is set, and H is only under `setsH`. -/
structure State.Reaches (setsH : Prop) (s u : State) : Prop where
  inv : s.Inv → s.power = .running → u.Inv
  p : u.sr.p = true
  h : u.sr.h = true → setsH

/-- `t` is an end of such an instruction: the state that it reaches, settled, or the entry of the error exception that it raises there. -/
def State.EndsAs (setsH : Prop) (s t : State) : Prop := ∃ u, (t = u.settle s.delay ∨ s.raises u = .next t) ∧ s.Reaches setsH u

section

variable {P Q : Prop} {len k : Nat} {g b e : Bool} {s t u w : State} {rd rs : Reg} {x : Access}

theorem State.Inv.settle (h : s.Inv) (d : Delay) : (s.settle d).Inv := by
  unfold State.settle
  split
  · exact h.of_frame rfl
  · exact h

/-- The two ends of an instruction that has reached a state with the invariant. -/
theorem ends_inv (he : t = u.settle s.delay ∨ s.raises u = .next t) (hu : u.Inv) : t.Inv := by
  rcases he with rfl | h
  · exact hu.settle s.delay
  · exact hu.takeException h

theorem State.EndsAs.inv (h : s.EndsAs P t) (hs : s.Inv) (hr : s.power = .running) : t.Inv := by
  obtain ⟨u, he, hu⟩ := h
  exact ends_inv he (hu.inv hs hr)

/-- An exception keeps P. -/
theorem State.EndsAs.p (h : s.EndsAs P t) : t.sr.p = true := by
  obtain ⟨u, rfl | hx, hu⟩ := h
  · rw [State.settle_sr_p]; exact hu.p
  · obtain ⟨e, -, rfl⟩ := takeException_inv hx
    exact hu.p

/-- An exception clears H (D21). -/
theorem State.EndsAs.h (h : s.EndsAs P t) (ht : t.sr.h = true) : P := by
  obtain ⟨u, rfl | hx, hu⟩ := h
  · rw [State.settle_sr_h] at ht; exact hu.h ht
  · obtain ⟨e, -, rfl⟩ := takeException_inv hx
    cases ht

theorem State.underway_p (s : State) (len k : Nat) (f : Flags) : (s.underway len k f).sr.p = true := by
  unfold State.underway State.srDuring; split <;> rfl

theorem State.underway_h (s : State) (len k : Nat) (f : Flags) : (s.underway len k f).sr.h = false := rfl

theorem State.underway_atWork (len k : Nat) (f : Flags) (h : s.Inv) : (s.underway len k f).AtWork := ⟨h.underway len k f, rfl, rfl⟩

/-- A global register code is in no instruction that runs under H = 1 but MOV and MOVI (93 U4). -/
theorem frameRefusal_none_global (h : s.frameRefusal len g b = none) : (s.sr.h && g) = false := by
  unfold State.frameRefusal at h
  split at h
  · cases h
  · exact Bool.eq_false_iff.mpr (by assumption)

/-- An instruction keeps what its body keeps; it sets H where its body places a result in the SR. -/
theorem instruction_ends {body : State → State → Out (State × Bool)} (h : instruction len g b s body = .next t)
    (hb : ∀ r v u e, body r v = .next (u, e) → v.WorksTo Q u) (hQ : (s.sr.h && g) = false → Q → P) : s.EndsAs P t := by
  obtain ⟨hf, u, e, hu, he⟩ := instruction_inv h
  have hw := hb _ _ _ _ hu
  refine ⟨u, he.imp And.right And.right, fun hs _ => (hw.atWork (State.underway_atWork len 0 s.flags hs)).inv, ?_, fun hh => ?_⟩
  · rw [hw.p]; exact State.underway_p ..
  · exact hQ (frameRefusal_none_global hf) ((hw.h hh).resolve_left (by rw [State.underway_h]; decide))

/-- The same for a body that places no result in the SR. -/
theorem instruction_ends_plain {body : State → State → Out (State × Bool)} (h : instruction len g b s body = .next t)
    (hb : ∀ r v u e, body r v = .next (u, e) → v.WorksTo False u) : s.EndsAs P t :=
  instruction_ends h hb fun _ => False.elim

/-- An instruction whose result register is `rd` sets H where that is the SR, which it can name only with H = 0. -/
theorem instruction_ends_result {body : State → State → Out (State × Bool)} (h : instruction len g b s body = .next t)
    (hg : rd = .g 1 → s.sr.h = true → g = true)
    (hb : ∀ r v u e, body r v = .next (u, e) → v.WorksTo (rd = .g 1) u) : s.EndsAs (s.sr.h = false ∧ some rd = some (.g 1)) t :=
  instruction_ends h hb fun hh hr => by
    refine ⟨Bool.eq_false_iff.mpr fun hs => ?_, congrArg some hr⟩
    rw [hs, hg hr hs] at hh
    cases hh

/-! ### Instructions with a result register -/

theorem compute_ends {f : State → AluResult} (h : compute len g rd k s f = .next t) (hg : rd = .g 1 → g = true) :
    s.EndsAs (s.sr.h = false ∧ some rd = some (.g 1)) t :=
  instruction_ends_result h (fun hr _ => hg hr) fun r v u e hu => by
    obtain ⟨⟨x, e'⟩, hx, hu⟩ := andThen_inv hu
    cases hu
    exact (v.drawn_works k).trans (writeResult_works hx id)

theorem logical_ends {f : State → Word} (h : logical len g rd s f = .next t) (hg : rd = .g 1 → g = true) :
    s.EndsAs (s.sr.h = false ∧ some rd = some (.g 1)) t := compute_ends h hg

theorem setIf_ends {cond : Cond} {yes : Word} (h : setIf cond yes rd s = .next t) : s.EndsAs (s.sr.h = false ∧ some rd = some (.g 1)) t :=
  compute_ends h fun hr => by rw [hr]; rfl

theorem eitherGlobal_sr (h : rd = .g 1) : eitherGlobal rd rs = true := by rw [h]; rfl

theorem indexMove_ends {lim : Lim} (h : indexMove k rd rs lim s = .next t) : s.EndsAs (s.sr.h = false ∧ some rd = some (.g 1)) t :=
  compute_ends h eitherGlobal_sr

theorem indexScale_ends {lim : Lim} (h : indexScale k rd rs lim s = .next t) : s.EndsAs (s.sr.h = false ∧ some rd = some (.g 1)) t :=
  compute_ends h eitherGlobal_sr

theorem computeOrBranch_ends {f : State → AluResult} (h : computeOrBranch len g rd k s f = .next t)
    (hg : rd = .g 1 → s.sr.h = true → g = true) : s.EndsAs (s.sr.h = false ∧ some rd = some (.g 1)) t :=
  instruction_ends_result h hg fun _ v _ _ hu => (v.drawn_works k).trans (writeOrBranch_works hu id)

theorem computePair_ends {f : State → Slot → AluPair} (h : computePair g rd k s f = .next t) (hg : rd = .g 1 → g = true) :
    s.EndsAs (s.sr.h = false ∧ some rd = some (.g 1)) t :=
  instruction_ends_result h (fun hr _ => hg hr) fun r v u e hu => by
    obtain ⟨rdf, -, hu⟩ := withFollower_inv hu
    obtain ⟨⟨x, e'⟩, hx, hu⟩ := andThen_inv hu
    cases hu
    exact (v.drawn_works k).trans (writePair_works hx id)

theorem anySingle_ends {f : State → Flags} (h : anySingle rd rs s f = .next t) : s.EndsAs (s.sr.h = false ∧ some rd = some (.g 1)) t :=
  instruction_ends_result h (fun hr _ => eitherGlobal_sr hr) fun _ v _ _ hu => (v.drawn_works 2).trans (writeResult_works hu id)

theorem anyPair_ends {f : State → Flags} (h : anyPair rd rs s f = .next t) : s.EndsAs (s.sr.h = false ∧ some rd = some (.g 1)) t :=
  instruction_ends_result h (fun hr _ => eitherGlobal_sr hr) fun _ v _ _ hu => (v.drawn_works 3).trans (writePair_works hu id)

theorem mul_ends (h : execMul rd rs s = .next t) : s.EndsAs (s.sr.h = false ∧ some rd = some (.g 1)) t := by
  unfold execMul at h
  split at h
  · exact anySingle_ends h
  · exact compute_ends h eitherGlobal_sr

/-- A multiplication or division with a double-word result, by whether an operand denotes the PC or the SR (93 U33). -/
theorem anyOrPair_ends {c : Bool} {f : State → Flags} {f' : State → Slot → AluPair}
    (h : (if c then anyPair rd rs s f else computePair (eitherGlobal rd rs) rd k s f') = .next t) :
    s.EndsAs (s.sr.h = false ∧ some rd = some (.g 1)) t := by
  split at h
  · exact anyPair_ends h
  · exact computePair_ends h eitherGlobal_sr

theorem shiftPair_ends {ld : BitVec 4} {value : BitVec 64 → State → BitVec 64} {flags : BitVec 64 → State → Flags}
    (h : shiftPair ld k s value flags = .next t) : s.EndsAs P t :=
  instruction_ends_plain h fun _ _ _ _ hu => by cases hu; exact .of_registers rfl

/-- A shift of a local pair by a register, by whether the count lies in the pair (93 U35). -/
theorem anyOrShift_ends {c : Bool} {ld : BitVec 4} {any : State → Flags} {value : BitVec 64 → State → BitVec 64}
    {flags : BitVec 64 → State → Flags} (h : (if c then anyShift ld s any else shiftPair ld k s value flags) = .next t) : s.EndsAs P t := by
  split at h <;> exact shiftPair_ends h

theorem movd_ends (h : execMovd rd rs s = .next t) : s.EndsAs (s.sr.h = false ∧ some rd = some (.g 1)) t := by
  unfold execMovd at h
  split at h
  · exact computePair_ends h eitherGlobal_sr
  · refine instruction_ends_result h (fun hr _ => eitherGlobal_sr hr) fun r v u e hu => ?_
    obtain ⟨rsf, -, hu⟩ := withFollower_inv hu
    exact (v.drawn_works 1).trans (writePair_works hu id)

/-- A move with H = 1 never reaches the SR: its code names a reserved register there (93 U5). -/
theorem moveHigh_ends {read : State → Out (Word × State)} (h : moveHigh len rd s read = .next t)
    (hread : ∀ w v x, read w = .next (v, x) → w.WorksTo False x) : s.EndsAs P t := by
  refine instruction_ends_plain h fun r w u e hu => ?_
  split at hu
  · obtain ⟨⟨v, x⟩, hx, hu⟩ := andThen_inv hu
    cases hu
    exact (hread _ _ _ hx).trans (.of_registers rfl)
  · split at hu
    · obtain ⟨⟨v, x⟩, hx, hu⟩ := andThen_inv hu
      obtain ⟨y, hy, hu⟩ := andThen_inv hu
      cases hu
      exact (hread _ _ _ hx).trans ((writeHigh_works hy).trans (.of_registers rfl))
    · cases hu; exact .of_registers rfl

theorem readAnyHigh_works {v : Word} (h : s.readAnyHigh rs = .next (v, t)) : s.WorksTo P t := by
  unfold State.readAnyHigh at h
  split at h
  · cases h; exact .refl _
  · exact readHigh_works h

theorem mov_ends (h : execMov rd rs s = .next t) : s.EndsAs (s.sr.h = false ∧ some rd = some (.g 1)) t := by
  unfold execMov at h
  split at h
  · exact moveHigh_ends h fun _ _ _ hx => readAnyHigh_works hx
  · exact computeOrBranch_ends h fun _ hh => absurd hh (by assumption)

theorem movi_ends {imm : Imm} (h : execMovi rd imm s = .next t) : s.EndsAs (s.sr.h = false ∧ some rd = some (.g 1)) t := by
  unfold execMovi at h
  split at h
  · exact moveHigh_ends h fun _ _ _ hx => by cases hx; exact .refl _
  · exact computeOrBranch_ends h fun _ hh => absurd hh (by assumption)

/-! ### Instructions without a result register -/

theorem computeFlags_ends {f : State → Flags} (h : computeFlags len g s f = .next t) : s.EndsAs P t :=
  instruction_ends_plain h fun _ _ _ _ hu => by cases hu; exact .of_registers rfl

theorem check_ends {f : State → Bool} (h : check g s f = .next t) : s.EndsAs P t :=
  instruction_ends_plain h fun _ _ _ _ hu => by cases hu; exact .refl _

theorem dsp_ends {ld ls : BitVec 4} {f : DspIn → DspOut} (h : dsp ld ls b s f = .next t) : s.EndsAs P t :=
  instruction_ends_plain h fun _ _ _ _ hu => by cases hu; exact .of_registers rfl

theorem fetch_ends {n : BitVec 4} (h : execFetch n s = .next t) : s.EndsAs P t :=
  instruction_ends_plain h fun _ _ _ _ hu => by cases hu; exact .refl _

theorem Cache.afterBranch_wf {c : Cache} {rel : Rel} {a : Word} (h : c.wf = true) : (c.afterBranch rel a).wf = true := by
  unfold Cache.afterBranch
  split
  · exact h
  · exact Cache.flush_wf _ _

theorem Cache.afterDelayed_wf {c : Cache} {rel : Rel} {m : Bool} {a : Word} (h : c.wf = true) : (c.afterDelayed rel m a).wf = true := by
  unfold Cache.afterDelayed
  split <;> exact h

theorem branch_ends {cond : Cond} {rel : Rel} (h : branch cond rel s = .next t) : s.EndsAs P t :=
  instruction_ends_plain h fun _ _ _ _ hu => by
    split at hu <;> cases hu
    · exact .of_branch rfl (evenAddress_even _) Cache.afterBranch_wf
    · exact .refl _

theorem software_ends {op ld ls : BitVec 4} (h : software op ld ls s = .next t) : s.EndsAs P t :=
  instruction_ends_plain h fun r v u e hu => by
    obtain ⟨entry, -, hu⟩ := andThen_inv hu
    cases hu
    exact .of_branch rfl (evenAddress_even _) fun _ => Cache.flush_wf _ _

/-- A new frame (45 R361, R367) clears M and H. -/
theorem State.openFrame_works (s : State) (k : Nat) (ret : Word) (old : StatusReg) (fl : BitVec 4) :
    s.WorksTo P (s.openFrame k ret old fl) where
  atWork := fun hw => ⟨hw.inv.of_frame rfl, hw.delay, hw.lockout⟩
  p := rfl
  h := fun ht => by cases ht

theorem State.enterTrap_works (s : State) (entry : Word) (old : StatusReg) : s.WorksTo P (s.enterTrap entry old) :=
  (s.openFrame_works _ s.pc old 6).trans (.of_branch rfl (evenAddress_even _) fun _ => Cache.flush_wf _ _)

theorem trapIf_ends {cond : Cond} {n : BitVec 6} (h : trapIf cond n s = .next t) : s.EndsAs P t :=
  instruction_ends_plain h fun r v u e hu => by
    split at hu
    · obtain ⟨entry, -, hu⟩ := andThen_inv hu
      cases hu; exact v.enterTrap_works entry _
    · cases hu; exact .refl _

theorem frame_ends {ld ls : BitVec 4} (h : execFrame ld ls s = .next t) : s.EndsAs P t :=
  instruction_ends_plain h fun r v u e hu => by
    obtain ⟨x, hx, hu⟩ := andThen_inv hu
    cases hu
    exact (State.WorksTo.of_registers rfl).trans (push_works hx)

/-- A lockout, or a delay instruction at an even address, owed by a running processor. -/
theorem State.Inv.with_owed (h : s.Inv) (hp : s.power = .running) {d : Delay} (hd : ∀ a, d = .taken a → a.getLsbD 0 = false) (l : Bool) :
    ({ s with delay := d, callLockout := l } : State).Inv :=
  { h with slotEven := hd, asleepClear := fun hn => absurd hp hn }

/-- CALL leaves a lockout (45 R366). -/
theorem call_ends {ld : BitVec 4} {const : Const} (h : execCall ld rs const s = .next t) : s.EndsAs P t := by
  obtain ⟨-, u, e, hu, he⟩ := instruction_inv h
  cases hu
  have hw := ((s.underway (constLength const) 0 s.flags).openFrame_works (P := False) (codeOr16 ld) (s.begin (constLength const)).pc
    (s.begin (constLength const)).sr 6).trans (State.branchTo_works _ (callTarget (s.begin (constLength const)) rs const))
  exact ⟨_, he.imp And.right And.right, fun hs hr => (hw.atWork (State.underway_atWork _ _ _ hs)).inv.with_owed hr
    (fun a ha => by cases ha) true, hw.p.trans (State.underway_p ..), fun hh => by cases hh⟩

/-- A Delayed Branch leaves a delay instruction, at an even address (45 R356, R357). -/
theorem delayedBranch_ends {cond : Cond} {rel : Rel} (h : delayedBranch cond rel s = .next t) : s.EndsAs P t := by
  unfold delayedBranch at h
  split at h
  · obtain ⟨-, u, e, hu, he⟩ := instruction_inv h
    refine ⟨u, he.imp And.right And.right, ?_⟩
    split at hu <;> cases hu
    · refine ⟨fun hs hr => ?_, s.underway_p (relLength rel) 0 s.flags, fun hh => by cases hh⟩
      have hu := hs.underway (relLength rel) 0 s.flags
      exact { hu with
        pcEven := evenAddress_even _
        slotEven := fun a ha => by
          cases ha; rw [State.begin_pc]; exact State.nextPc_even _ hs.pcEven
        asleepClear := fun hn => absurd hr hn
        cacheBounded := Cache.afterDelayed_wf hs.cacheBounded }
    · exact ⟨fun hs hr => (hs.underway _ _ _).with_owed hr (fun a ha => by cases ha) false,
        s.underway_p (relLength rel) 0 s.flags, fun hh => by cases hh⟩
  · unfold misplacedBranch at h
    refine instruction_ends_plain h fun _ v _ _ hu => ?_
    split at hu <;> cases hu
    · exact v.branchTo_works _
    · exact .refl _

/-! ### Loads and stores -/

theorem Access.advance_works (x : Access) (s w : State) : w.WorksTo P (x.advance s w) := .of_registers (by rw [Access.advance_frame])

theorem Access.load_works (h : x.load s w = .next (u, e)) : w.WorksTo P u := by
  obtain ⟨hf, h⟩ := refusedIf_inv h
  split at h
  · cases h; exact x.advance_works s w
  · obtain ⟨y, hy, h⟩ := andThen_inv h
    cases h; exact (x.advance_works s w).trans (loadMemory_works (general_of_not_forbidden hf) hy)

theorem Access.store_works (h : x.store s w = .next (u, e)) : w.WorksTo P u := by
  obtain ⟨low, h⟩ := withStoredLow_inv h
  split at h
  · cases h; exact x.advance_works s w
  · obtain ⟨y, hy, h⟩ := andThen_inv h
    cases h; exact (x.advance_works s w).trans (storeMemory_works hy)

theorem Access.stackLoad_works (h : x.stackLoad s w = .next (u, e)) : w.WorksTo P u := by
  obtain ⟨hf, h⟩ := refusedIf_inv h
  split at h
  · cases h; exact x.advance_works s w
  · obtain ⟨⟨v, y⟩, hy, h⟩ := andThen_inv h
    cases h
    exact (stackRead_works hy).trans ((x.advance_works s y).trans (writeLoaded_works _ v (general_of_not_forbidden hf)))

theorem Access.stackStore_works (h : x.stackStore s w = .next (u, e)) : w.WorksTo P u := by
  unfold Access.stackStore at h
  split at h
  · cases h; exact x.advance_works s w
  · obtain ⟨y, hy, h⟩ := andThen_inv h
    cases h; exact (x.advance_works s w).trans (stackWrite_works hy)

/-- A load or store by a row of the tables of the address modes. -/
theorem Access.run_ends {body : Access → State → State → Out (State × Bool)} (h : x.run body s = .next t)
    (hb : ∀ w u e, body x s w = .next (u, e) → w.WorksTo False u) : s.EndsAs P t :=
  instruction_ends_plain (Access.guarded_inv h) fun _ => hb

theorem exec_load_ends {i : Instr} (hi : i.loadForm = some x) (h : exec i s = .next t) : s.EndsAs P t := by
  rw [exec_load hi] at h
  exact Access.run_ends h fun _ _ _ => Access.load_works

theorem exec_store_ends {i : Instr} (hi : i.storeForm = some x) (h : exec i s = .next t) : s.EndsAs P t := by
  rw [exec_store hi] at h
  exact Access.run_ends h fun _ _ _ => Access.store_works

theorem exec_ldwS_ends {dis : DisW} (h : exec (.ldwS rd rs dis) s = .next t) : s.EndsAs P t := by
  rw [exec_ldwS_eq] at h
  exact Access.run_ends h fun _ _ _ => Access.stackLoad_works

theorem exec_stwS_ends {dis : DisW} (h : exec (.stwS rd rs dis) s = .next t) : s.EndsAs P t := by
  rw [exec_stwS_eq] at h
  exact Access.run_ends h fun _ _ _ => Access.stackStore_works

/-! The address modes of the I/O space. -/

theorem loadIoDis_ends {dis : Word} (h : loadIoDis len b rd rs dis s = .next t) : s.EndsAs P t :=
  instruction_ends_plain h fun r v u e hu => by
    obtain ⟨hf, hu⟩ := refusedIf_inv hu
    split at hu
    · cases hu; exact .refl _
    · obtain ⟨x, hx, hu⟩ := andThen_inv hu
      cases hu; exact loadIo_works (general_of_not_forbidden hf) hx

theorem loadIoAbs_ends {dis : Word} (h : loadIoAbs len b rs dis s = .next t) : s.EndsAs P t :=
  instruction_ends_plain h fun r v u e hu => by
    obtain ⟨hf, hu⟩ := refusedIf_inv hu
    obtain ⟨x, hx, hu⟩ := andThen_inv hu
    cases hu; exact loadIo_works (general_of_not_forbidden hf) hx

theorem storeIoDis_ends {dis : Word} (h : storeIoDis len b rd rs dis s = .next t) : s.EndsAs P t :=
  instruction_ends_plain h fun r v u e hu => by
    obtain ⟨low, hu⟩ := withStoredLow_inv hu
    split at hu
    · cases hu; exact .refl _
    · obtain ⟨x, hx, hu⟩ := andThen_inv hu
      cases hu; exact storeIo_works hx

theorem storeIoAbs_ends {dis : Word} (h : storeIoAbs len b rs dis s = .next t) : s.EndsAs P t :=
  instruction_ends_plain h fun r v u e hu => by
    obtain ⟨low, hu⟩ := withStoredLow_inv hu
    obtain ⟨x, hx, hu⟩ := andThen_inv hu
    cases hu; exact storeIo_works hx

/-! ### Every instruction -/

/-- Every instruction but Return ends with the invariant and with P set, and sets H only where the SR is its result register, with H = 0. -/
theorem exec_ends {i : Instr} (hi : ∀ rs, i ≠ .ret rs) (h : exec i s = .next t) : s.EndsAs (s.sr.h = false ∧ i.dest = some (.g 1)) t := by
  cases i with
  | ret rs => exact absurd rfl (hi rs)
  | mov => exact mov_ends h
  | movi => exact movi_ends h
  | add | addi | addiCz | sum | sub => dsimp only [exec] at h; exact computeOrBranch_ends h fun hr _ => by rw [hr]; rfl
  | adds | addc | addsi | addsiCz | sums | subs | subc | neg | negs | shri | sari | shli | setadr =>
    dsimp only [exec] at h; exact compute_ends h fun hr => by rw [hr]; rfl
  | shl | sar | shr | rol | testlz => dsimp only [exec] at h; exact compute_ends h fun hr => by cases hr
  | and | andn | or | xor | not | andni | ori | xori | mask => dsimp only [exec] at h; exact logical_ends h fun hr => by rw [hr]; rfl
  | xm1 | xm2 | xm4 | xm8 => dsimp only [exec] at h; exact indexMove_ends h
  | xx1 | xx2 | xx4 | xx8 => dsimp only [exec] at h; exact indexScale_ends h
  | set1 | set0 | setle | setgt | setlt | setge | setse | setht | setst | sethe | sete | setne | setv | setnv
  | set1M | setleM | setgtM | setltM | setgeM | setseM | sethtM | setstM | setheM | seteM | setneM | setvM | setnvM =>
    dsimp only [exec] at h; exact setIf_ends h
  | mul => exact mul_ends h
  | muls | mulu | divs | divu => dsimp only [exec] at h; exact anyOrPair_ends h
  | movd => exact movd_ends h
  | shldi | sardi | shrdi => dsimp only [exec] at h; exact shiftPair_ends h
  | shld | sard | shrd => dsimp only [exec] at h; exact anyOrShift_ends h
  | chk | chkz | nop => dsimp only [exec] at h; exact check_ends h
  | cmp | cmpi | cmpb | cmpbi | cmpbiAnybz => dsimp only [exec] at h; exact computeFlags_ends h
  | bv | bnv | be | bne | bc | bnc | bse | bht | bn | bnn | ble | bgt | br => dsimp only [exec] at h; exact branch_ends h
  | dbv | dbnv | dbe | dbne | dbc | dbnc | dbse | dbht | dbn | dbnn | dble | dbgt | dbr =>
    dsimp only [exec] at h; exact delayedBranch_ends h
  | call => exact call_ends h
  | traple | trapgt | traplt | trapge | trapse | trapht | trapst | traphe | trape | trapne | trapv | trap =>
    dsimp only [exec] at h; exact trapIf_ends h
  | frame => exact frame_ends h
  | fadd | faddd | fsub | fsubd | fmul | fmuld | fdiv | fdivd | fcmp | fcmpd | fcmpu | fcmpud | fcvt | fcvtd | softDo =>
    dsimp only [exec] at h; exact software_ends h
  | emul | emulu | emuls | emac | emacd | emsub | emsubd | ehmac | ehmacd | ehcmuld | ehcmacd | ehcsumd | ehcfftd | ehcfftsd =>
    dsimp only [exec] at h; exact dsp_ends h
  | fetch k => exact fetch_ends (n := k) h
  | ldbsD | ldbuD | ldhuD | ldhsD | ldwD | lddD | ldbsA | ldbuA | ldhuA | ldhsA | ldwA | lddA
  | ldbsN | ldbuN | ldhuN | ldhsN | ldwN | lddN | ldwR | lddR | ldwP | lddP => exact exec_load_ends rfl h
  | stbsD | stbuD | sthuD | sthsD | stwD | stdD | stbsA | stbuA | sthuA | sthsA | stwA | stdA
  | stbsN | stbuN | sthuN | sthsN | stwN | stdN | stwR | stdR | stwP | stdP => exact exec_store_ends rfl h
  | ldwS => exact exec_ldwS_ends h
  | stwS => exact exec_stwS_ends h
  | ldwIod | lddIod => dsimp only [exec] at h; exact loadIoDis_ends h
  | ldwIoa | lddIoa => dsimp only [exec] at h; exact loadIoAbs_ends h
  | stwIod | stdIod => dsimp only [exec] at h; exact storeIoDis_ends h
  | stwIoa | stdIoa => dsimp only [exec] at h; exact storeIoAbs_ends h

/-- Return, which restores the whole SR, keeps the invariant too (45 R380). -/
theorem ret_inv (h : execRet rs s = .next t) (hs : s.Inv) : t.Inv := by
  obtain ⟨-, u, e, hu, he⟩ := instruction_inv h
  obtain ⟨rsf, -, hu⟩ := withFollower_inv hu
  obtain ⟨x, hx, hu⟩ := andThen_inv hu
  cases hu
  have hw := State.underway_atWork 1 0 s.flags hs
  have hr (a b : Word) : ((s.underway 1 0 s.flags).restore a b).AtWork :=
    ⟨{ hw.inv with pcEven := evenAddress_even a, cacheBounded := Cache.flush_wf _ _ }, rfl, rfl⟩
  exact ends_inv (he.imp And.right And.right) ((pull_works (P := False) hx).atWork (hr _ _)).inv

/-- An instruction of a running processor keeps the invariant. -/
theorem exec_inv {i : Instr} (h : exec i s = .next t) (hs : s.Inv) (hr : s.power = .running) : t.Inv := by
  by_cases hi : ∃ rs, i = .ret rs
  · obtain ⟨rs, rfl⟩ := hi
    exact ret_inv h hs
  · exact (exec_ends (fun rs hrs => hi ⟨rs, hrs⟩) h).inv hs hr

/-- The step of a running processor. -/
theorem runInstruction_inv {k : Nat} (hs : s.Inv) (hr : s.power = .running) (h : s.runInstruction k = .next t) : t.Inv := by
  obtain ⟨⟨i, v⟩, hf, h⟩ := andThen_inv h
  obtain ⟨u, hu, h⟩ := andThen_inv h
  obtain ⟨hl, -⟩ := State.fetch_inv hf
  have hv : v.power = .running := by rw [hl.frame]; exact hr
  have hu := exec_inv hu (hl.inv hs) hv
  split at h
  · cases h; exact hu
  · exact hu.elapse h

end

/-- Settles O8, by the power state: fetch, instruction, devices and boundary each keep the invariant, and so does a reset. -/
theorem stepKeepsInvariant : Obligations.StepKeepsInvariant := by
  intro s t hs h
  unfold step at h
  dsimp only at h
  split at h
  · cases h; exact hs.sense.resetException .pin
  · split at h
    case h_1 hr => exact runInstruction_inv hs.sense hr h
    case h_2 => exact hs.sense.idle h
    case h_3 =>
      split at h <;> cases h
      · exact hs.sense.resetException .clockDown
      · exact hs.sense

/-- Settles O19: the SR named as Rd, or the Return. -/
theorem highGlobalFlagLastsOneInstruction : Obligations.HighGlobalFlagLastsOneInstruction := by
  intro i s t h hh
  by_cases hi : ∃ rs, i = .ret rs
  · exact .inl hi
  · exact .inr ((exec_ends (fun rs hrs => hi ⟨rs, hrs⟩) h).h hh)

/-- Settles O20: P is set when the instruction begins, and only the Return writes it after that. -/
theorem everyInstructionSetsTracePending : Obligations.EveryInstructionSetsTracePending := by
  intro i s t h
  by_cases hi : ∃ rs, i = .ret rs
  · exact .inr hi
  · exact .inl (exec_ends (fun rs hrs => hi ⟨rs, hrs⟩) h).p

end Sys2Proof.Machine

/-! ## A reset of any state (10_state R76, 60_exceptions R473, 70 R581 to R583) -/

namespace Sys2Proof.Machine

/-! ### Memory that has lost cells -/

section

variable {blank blank' : Nat → Byte} {keep : Nat → Bool} {cell : Nat}

theorem Memory.get_filter_kept (m : List Host.Cell) (hk : keep cell = true) (hb : blank' cell = blank cell) :
    Memory.get blank' (m.filter fun x => keep x.1) cell = Memory.get blank m cell := by
  induction m with
  | nil => exact hb
  | cons x m ih =>
    by_cases hx : x.1 = cell
    · rw [List.filter_cons_of_pos (by rw [hx]; exact hk)]
      simp only [Memory.get, hx, if_true]
    · rw [Memory.get, if_neg hx, ← ih, List.filter_cons]
      split
      · rw [Memory.get, if_neg hx]
      · rfl

theorem Memory.get_filter_dropped (m : List Host.Cell) (hk : keep cell = false) :
    Memory.get blank (m.filter fun x => keep x.1) cell = blank cell := by
  induction m with
  | nil => rfl
  | cons x m ih =>
    rw [List.filter_cons]
    split
    · rename_i hx
      rw [Memory.get, if_neg (fun hc => by rw [hc, hk] at hx; cases hx)]
      exact ih
    · exact ih

end

/-- The cells that a reset loses: the memory on the chip, and MEM0 as DRAM (70 R583, 61 R544). -/
theorem lostCell_iff (mcr : Word) (cell : Nat) :
    lostCell mcr cell = true ↔ (0xC0000000 ≤ cell ∧ cell < 0xE0000000) ∨ (mcr.getLsbD 21 = false ∧ cell < 0x40000000) := by
  simp [lostCell, inIram, inMem0, isDram]

theorem losesMemory_iff (c : ResetCause) : c.losesMemory = true ↔ c ≠ .watchdog := by cases c <;> decide

/-- A cell that has just been lost reads as any byte. -/
theorem Losses.blank_lost {l : Losses} {mcr : Word} {c : ResetCause} {cell : Nat} (hc : c.losesMemory = true)
    (hl : lostCell mcr cell = true) : ∃ k, (l.afterReset mcr c).blank cell = Config.lostByte k cell := by
  unfold Losses.afterReset Losses.blank
  rw [if_pos hc]
  unfold lostCell at hl
  cases hi : inIram cell with
  | true => exact ⟨l.iram + 1, by simp⟩
  | false =>
    rw [hi, Bool.false_or, Bool.and_eq_true] at hl
    exact ⟨l.mem0 + 1, by simp [hl.1, hl.2]⟩

theorem State.resetException_get_lost {s : State} {c : ResetCause} {cell : Nat} (hc : c.losesMemory = true)
    (hl : lostCell s.bus.mcr cell = true) :
    ∃ k, Memory.get (s.resetException c).lost.blank (s.resetException c).mem cell = Config.lostByte k cell := by
  obtain ⟨k, hk⟩ := Losses.blank_lost (l := s.lost) hc hl
  have hm : (s.resetException c).mem = s.mem.filter fun x => !lostCell s.bus.mcr x.1 := if_pos hc
  refine ⟨k, ?_⟩
  rw [hm, Memory.get_filter_dropped (keep := fun x => !lostCell s.bus.mcr x) s.mem (by simp [hl])]
  exact hk

theorem State.resetException_get_kept {s : State} {c : ResetCause} {cell : Nat} (h : (c.losesMemory && lostCell s.bus.mcr cell) = false) :
    Memory.get (s.resetException c).lost.blank (s.resetException c).mem cell = Memory.get s.lost.blank s.mem cell := by
  have hb : (s.resetException c).lost.blank cell = s.lost.blank cell := Losses.blank_afterReset s.lost s.bus.mcr c cell h
  cases hc : c.losesMemory with
  | true =>
    have hm : (s.resetException c).mem = s.mem.filter fun x => !lostCell s.bus.mcr x.1 := if_pos hc
    rw [hc, Bool.true_and] at h
    rw [hm]
    exact Memory.get_filter_kept (keep := fun x => !lostCell s.bus.mcr x) s.mem (by simp [h]) hb
  | false =>
    have hm : (s.resetException c).mem = s.mem := if_neg (by simp [hc])
    have hl : (s.resetException c).lost = s.lost := if_neg (by simp [hc])
    rw [hm, hl]

/-! ### Registers -/

/-- The fields of the MCR after reset; MEM3BusSize is the width that the boot pins select (10_state R72, 70 R584). -/
theorem resetMcr_fields (v : Variant) :
    (resetMcr v.bootWidth).extractLsb' 8 24 = 0xFFFFFF ∧ (resetMcr v.bootWidth).extractLsb' 0 6 = 0x3F ∧
    (resetMcr v.bootWidth).extractLsb' 6 2 = (match v with
      | .e1_32xs .w8 => 3#2 | .e1_32xs .w16 => 2#2 | .e1_32xs .w32 => 0#2 | .e1_16xs true => 3#2 | .e1_16xs false => 2#2) := by
  cases v with
  | e1_32xs boot => cases boot <;> decide
  | e1_16xs bootb => cases bootb <;> decide

theorem fcrAfterReset_eq (fcr : Word) (c : ResetCause) : fcrAfterReset fcr c = if c = .clockDown then fcr else 0xFFFFFFFF := by
  cases c <;> rfl

/-- Settles O10, value by value of the reset state. -/
theorem resetState : Obligations.ResetState :=
  ⟨rfl, rfl, rfl, rfl, rfl, rfl, rfl, rfl, rfl, rfl, rfl, by decide, by decide, rfl, rfl, rfl, rfl, rfl, rfl, rfl, rfl, rfl⟩

/-- Settles O11: the registers by what the reset writes in them, by cause where the cause decides; memory by the cells that it loses. -/
theorem resetOfAnyState : Obligations.ResetOfAnyState := by
  refine ⟨fun s hr => if_pos hr, fun s c => ?_⟩
  obtain ⟨hhigh, hlow, hwidth⟩ := resetMcr_fields s.platform.variant
  refine ⟨rfl, rfl, rfl, rfl, rfl, rfl, rfl, rfl, rfl, hhigh, hlow, hwidth, fcrAfterReset_eq s.fcr c, ?_, ?_, rfl, rfl, ?_,
    rfl, rfl, rfl, rfl, rfl, rfl, rfl, rfl, fun cell => ⟨fun hc hl => ?_, fun hk => ?_⟩⟩
  · rintro rfl; rfl
  · intro hc
    cases c with
    | watchdog => exact absurd rfl hc
    | pin | clockDown => exact ⟨(by decide : (0x0C000000 : Word).extractLsb' 26 3 = 3), (by decide : (0x0C000000 : Word).extractLsb' 16 8 = 0)⟩
  · intro hc
    cases c with
    | clockDown => exact absurd rfl hc
    | pin | watchdog => exact ⟨rfl, rfl, rfl⟩
  · exact State.resetException_get_lost ((losesMemory_iff c).mpr hc) ((lostCell_iff s.bus.mcr cell).mpr hl)
  · refine State.resetException_get_kept (Bool.and_eq_false_iff.mpr (hk.imp (fun hc => ?_) fun hl => ?_))
    · rw [hc]; rfl
    · exact Bool.eq_false_iff.mpr fun hc => hl ((lostCell_iff s.bus.mcr cell).mp hc)

end Sys2Proof.Machine

/-! ## Forms that are refused before they begin (93 U4, U36, U37) -/

namespace Sys2Proof.Machine

/-! ### Which encodings name a global register (30_encoding R131 to R144) -/

/-- What the first byte of an instruction says of global register codes: `Instr.namesGlobal` by that byte (`namesGlobal_eq`). -/
def opcodeNamesGlobal (b : BitVec 8) : Bool :=
  let op := b.toNat
  let d := !b.getLsbD 1
  let s := !b.getLsbD 0
  if op ≤ 0x5F ∨ (0x90 ≤ op ∧ op ≤ 0x9F) ∨ (0xB0 ≤ op ∧ op ≤ 0xB7) ∨ (0xBC ≤ op ∧ op ≤ 0xBF) then d || s
  else if (0x60 ≤ op ∧ op ≤ 0x7F) ∨ (0xA0 ≤ op ∧ op ≤ 0xBB) then d
  else if (0xD0 ≤ op ∧ op ≤ 0xDF) ∨ op = 0xEE ∨ op = 0xEF then s
  else false

theorem namesGlobal_eq (i : Instr) : i.namesGlobal = opcodeNamesGlobal (opByte ((encode i).headD 0)) := by
  unfold Instr.namesGlobal opcodeNamesGlobal
  generalize (encode i).headD 0 = h
  have h1 : (opByte h).getLsbD 1 = h.getLsbD 9 := by rw [opByte, BitVec.getLsbD_extractLsb']; rfl
  have h0 : (opByte h).getLsbD 0 = h.getLsbD 8 := by rw [opByte, BitVec.getLsbD_extractLsb']; rfl
  dsimp only
  rw [toNat_opByte, h1, h0]

theorem opByte_firstHalf (op : BitVec 6) (d s : BitVec 1) (dst src : BitVec 4) : opByte (firstHalf op d s dst src) = op ++ (d ++ s) := by
  rw [opByte_eq, opField_firstHalf, subField_firstHalf]

theorem bank_eq_zero (r : Reg) : (r.bank == 0#1) = r.isGlobal := by cases r <;> rfl

section

variable {i : Instr} {tail : List Half} {rd rs : Reg}

theorem namesGlobal_firstHalf {op : BitVec 6} {d s : BitVec 1} {dst src : BitVec 4} (h : encode i = firstHalf op d s dst src :: tail) :
    i.namesGlobal = opcodeNamesGlobal (op ++ (d ++ s)) := by
  rw [namesGlobal_eq, h, List.headD_cons, opByte_firstHalf]

/-- An instruction of a format with two bank bits. -/
theorem namesGlobal_RR {op : BitVec 6} (h : encode i = hwRR op rd rs :: tail)
    (hop : ∀ d s : BitVec 1, opcodeNamesGlobal (op ++ (d ++ s)) = (d == 0#1 || s == 0#1)) : i.namesGlobal = eitherGlobal rd rs := by
  rw [hwRR_eq] at h
  rw [namesGlobal_firstHalf h, hop, bank_eq_zero, bank_eq_zero, eitherGlobal]

theorem namesGlobal_RR_left {op : BitVec 6} {c : BitVec 4} (h : encode i = hwRR op (.g c) rs :: tail)
    (hop : ∀ d s : BitVec 1, opcodeNamesGlobal (op ++ (d ++ s)) = (d == 0#1 || s == 0#1)) : i.namesGlobal = true :=
  namesGlobal_RR h hop

theorem namesGlobal_RR_right {op : BitVec 6} {c : BitVec 4} (h : encode i = hwRR op rd (.g c) :: tail)
    (hop : ∀ d s : BitVec 1, opcodeNamesGlobal (op ++ (d ++ s)) = (d == 0#1 || s == 0#1)) : i.namesGlobal = true :=
  (namesGlobal_RR h hop).trans (Bool.or_true _)

/-- An instruction of a format with the bank bit of Rd. -/
theorem namesGlobal_Rn {op : BitVec 6} {n : BitVec 5} (h : encode i = hwRn op rd n :: tail)
    (hop : ∀ d s : BitVec 1, opcodeNamesGlobal (op ++ (d ++ s)) = (d == 0#1)) : i.namesGlobal = rd.isGlobal := by
  rw [hwRn_eq] at h
  rw [namesGlobal_firstHalf h, hop, bank_eq_zero]

/-- An instruction of a format with the bank bit of Rs. -/
theorem namesGlobal_LR {op : BitVec 7} {ld : BitVec 4} (h : encode i = hwLR op ld rs :: tail)
    (hop : ∀ s : BitVec 1, opcodeNamesGlobal (op.extractLsb' 1 6 ++ (op.extractLsb' 0 1 ++ s)) = (s == 0#1)) :
    i.namesGlobal = rs.isGlobal := by
  rw [hwLR_eq] at h
  rw [namesGlobal_firstHalf h, hop, bank_eq_zero]

/-- An instruction that names two local registers. -/
theorem namesGlobal_LL {op : BitVec 8} {ld ls : BitVec 4} (h : encode i = hwLL op ld ls :: tail)
    (hop : opcodeNamesGlobal (op.extractLsb' 2 6 ++ (op.extractLsb' 1 1 ++ op.extractLsb' 0 1)) = false) : i.namesGlobal = false := by
  rw [hwLL_eq] at h
  rw [namesGlobal_firstHalf h, hop]

/-- An instruction that names a local register and a count. -/
theorem namesGlobal_Ln {op : BitVec 7} {ld : BitVec 4} {n : BitVec 5} (h : encode i = hwLn op ld n :: tail)
    (hop : ∀ s : BitVec 1, opcodeNamesGlobal (op.extractLsb' 1 6 ++ (op.extractLsb' 0 1 ++ s)) = false) : i.namesGlobal = false := by
  rw [hwLn_eq] at h
  rw [namesGlobal_firstHalf h, hop]

/-- An instruction that names a trap number: no byte of its group of OP-codes names a global register. -/
theorem namesGlobal_trap {code : BitVec 4} {t : BitVec 6} (h : encode i = hwTrap code t :: tail)
    (hop : ∀ c : BitVec 2, opcodeNamesGlobal (0x3F#6 ++ c) = false) : i.namesGlobal = false := by
  have hb : opField (hwTrap code t) = 0x3F#6 := by
    rw [opField, hwTrap, BitVec.append_assoc, BitVec.append_assoc]; exact BitVec.extractLsb'_append_eq_left
  rw [namesGlobal_eq, h, List.headD_cons, opByte_eq, hb, hop]

/-- An instruction that names a distance. -/
theorem namesGlobal_rel {op : BitVec 8} {rel : Rel} (h : encode i = rel.encode op)
    (hop : opcodeNamesGlobal (op.extractLsb' 2 6 ++ op.extractLsb' 0 2) = false) : i.namesGlobal = false := by
  obtain ⟨-, hf, hs⟩ := rel.fields_encode op
  rw [List.getD_eq_getElem?_getD, ← List.head?_eq_getElem?, ← List.headD_eq_head?_getD] at hf hs
  rw [namesGlobal_eq, h, opByte_eq, hf, hs, hop]

end

/-! ### Lengths (30_encoding R150) -/

theorem imm_tail_length (imm : Imm) : imm.tail.length + 1 = immLength imm := by cases imm <;> rfl

theorem const_encode_length (c : Const) : c.encode.length + 1 = constLength c := by cases c <;> rfl

theorem lim_encode_length (l : Lim) (x : BitVec 3) : (l.encode x).length + 1 = limLength l := by cases l <;> rfl

theorem disB_encode_length (dis : DisB) (d : BitVec 2) : (dis.encode d).length + 1 = disBLength dis := by cases dis <;> rfl

theorem disH_encode_length (dis : DisH) (d : BitVec 1) : (dis.encode d).length + 1 = disHLength dis := by cases dis <;> rfl

theorem disW_encode_length (dis : DisW) (d : BitVec 2) : (dis.encode d).length + 1 = disWLength dis := by cases dis <;> rfl

theorem rel_encode_length (rel : Rel) (op : BitVec 8) : (rel.encode op).length = relLength rel := by cases rel <;> rfl

/-! ### The frame in which each instruction runs (00_scope R10) -/

/-- An answer is that of the frame of every instruction, for a length, a use of global codes and a place in a delay slot. -/
def answersInFrame (x : Out State) (s : State) (len : Nat) (global branches : Bool) : Prop :=
  ∃ body, x = instruction len global branches s body

/-- Two meanings in the same frame. -/
theorem answersInFrame_ite {c : Prop} [Decidable c] {x y : Out State} {s : State} {len : Nat} {g b : Bool} (hx : answersInFrame x s len g b)
    (hy : answersInFrame y s len g b) : answersInFrame (if c then x else y) s len g b := by
  split
  · exact hx
  · exact hy

/-- The meaning `x` of an instruction runs in the frame that the encoding says: its length, its global codes, which are not looked at for MOV and
MOVI, and what must not follow a Delayed Branch. -/
def RunsAsEncoded (x : Out State) (i : Instr) (s : State) : Prop :=
  ∃ g, answersInFrame x s (encode i).length g (i.mustNotDelay s.sr.h) ∧
    ((i.isMove = false ∧ i.namesGlobal = g) ∨ (i.isMove = true ∧ g = false))

theorem RunsAsEncoded.of_frame {x : Out State} {i : Instr} {s : State} {len : Nat} {g b : Bool} (hm : answersInFrame x s len g b)
    (hl : (encode i).length = len) (hb : i.mustNotDelay s.sr.h = b) (hi : i.isMove = false) (hg : i.namesGlobal = g) :
    RunsAsEncoded x i s := by
  subst hl hb
  exact ⟨g, hm, .inl ⟨hi, hg⟩⟩

theorem RunsAsEncoded.of_move {x : Out State} {i : Instr} {s : State} {len : Nat} {b : Bool} (hm : answersInFrame x s len false b)
    (hl : (encode i).length = len) (hb : i.mustNotDelay s.sr.h = b) (hi : i.isMove = true) : RunsAsEncoded x i s := by
  subst hl hb
  exact ⟨false, hm, .inr ⟨hi, rfl⟩⟩

section

variable {s : State} {len k : Nat} {g b : Bool} {rd rs : Reg}

theorem compute_frame {f : State → AluResult} : answersInFrame (compute len g rd k s f) s len g false := ⟨_, rfl⟩

theorem computeOrBranch_frame {f : State → AluResult} : answersInFrame (computeOrBranch len g rd k s f) s len g rd.isPc := ⟨_, rfl⟩

theorem logical_frame {f : State → Word} : answersInFrame (logical len g rd s f) s len g false := compute_frame

theorem computePair_frame {f : State → Slot → AluPair} : answersInFrame (computePair g rd k s f) s 1 g false := ⟨_, rfl⟩

theorem computeFlags_frame {f : State → Flags} : answersInFrame (computeFlags len g s f) s len g false := ⟨_, rfl⟩

theorem check_frame {f : State → Bool} : answersInFrame (check g s f) s 1 g false := ⟨_, rfl⟩

theorem anySingle_frame {f : State → Flags} : answersInFrame (anySingle rd rs s f) s 1 (eitherGlobal rd rs) false := ⟨_, rfl⟩

theorem anyPair_frame {f : State → Flags} : answersInFrame (anyPair rd rs s f) s 1 (eitherGlobal rd rs) false := ⟨_, rfl⟩

theorem shiftPair_frame {ld : BitVec 4} {value : BitVec 64 → State → BitVec 64} {flags : BitVec 64 → State → Flags} :
    answersInFrame (shiftPair ld k s value flags) s 1 false false := ⟨_, rfl⟩

theorem anyOrShift_frame {c : Prop} [Decidable c] {ld : BitVec 4} {any : State → Flags} {value : BitVec 64 → State → BitVec 64}
    {flags : BitVec 64 → State → Flags} :
    answersInFrame (if c then anyShift ld s any else shiftPair ld k s value flags) s 1 false false :=
  answersInFrame_ite shiftPair_frame shiftPair_frame

theorem anyOrPair_frame {c : Prop} [Decidable c] {any : State → Flags} {f : State → Slot → AluPair} :
    answersInFrame (if c then anyPair rd rs s any else computePair (eitherGlobal rd rs) rd k s f) s 1 (eitherGlobal rd rs) false :=
  answersInFrame_ite anyPair_frame computePair_frame

theorem mul_frame : answersInFrame (execMul rd rs s) s 1 (eitherGlobal rd rs) false := answersInFrame_ite anySingle_frame compute_frame

theorem movd_frame : answersInFrame (execMovd rd rs s) s 1 (eitherGlobal rd rs) false := answersInFrame_ite computePair_frame ⟨_, rfl⟩

theorem moveHigh_frame {read : State → Out (Word × State)} : answersInFrame (moveHigh len rd s read) s len false false := ⟨_, rfl⟩

theorem mov_frame : answersInFrame (execMov rd rs s) s 1 false (rd.isPc && !s.sr.h) := by
  unfold execMov
  cases s.sr.h
  · rw [if_neg (by decide), Bool.not_false, Bool.and_true]; exact computeOrBranch_frame
  · rw [if_pos rfl, Bool.not_true, Bool.and_false]; exact moveHigh_frame

theorem movi_frame {imm : Imm} : answersInFrame (execMovi rd imm s) s (immLength imm) false (rd.isPc && !s.sr.h) := by
  unfold execMovi
  cases s.sr.h
  · rw [if_neg (by decide), Bool.not_false, Bool.and_true]; exact computeOrBranch_frame
  · rw [if_pos rfl, Bool.not_true, Bool.and_false]; exact moveHigh_frame

theorem dsp_frame {ld ls : BitVec 4} {f : DspIn → DspOut} : answersInFrame (dsp ld ls b s f) s 2 false false := ⟨_, rfl⟩

theorem branch_frame {cond : Cond} {rel : Rel} : answersInFrame (branch cond rel s) s (relLength rel) false true := ⟨_, rfl⟩

/-- A Delayed Branch may follow another one, where it acts as a Branch (log 22). -/
theorem delayedBranch_frame {cond : Cond} {rel : Rel} : answersInFrame (delayedBranch cond rel s) s (relLength rel) false false :=
  answersInFrame_ite ⟨_, rfl⟩ ⟨_, rfl⟩

theorem trapIf_frame {cond : Cond} {n : BitVec 6} : answersInFrame (trapIf cond n s) s 1 false true := ⟨_, rfl⟩

theorem software_frame {op ld ls : BitVec 4} : answersInFrame (software op ld ls s) s 1 false true := ⟨_, rfl⟩

theorem setIf_frame {cond : Cond} {yes : Word} : answersInFrame (setIf cond yes rd s) s 1 rd.isGlobal false := compute_frame

theorem indexMove_frame {lim : Lim} : answersInFrame (indexMove k rd rs lim s) s (limLength lim) (eitherGlobal rd rs) false := compute_frame

theorem indexScale_frame {lim : Lim} : answersInFrame (indexScale k rd rs lim s) s (limLength lim) (eitherGlobal rd rs) false := compute_frame

theorem loadThrough_frame {ty : DataType} {dis : Word} {bump : Option Word} :
    answersInFrame (loadThrough len g ty rd rs dis bump s) s len g false := ⟨_, rfl⟩

theorem storeThrough_frame {ty : DataType} {dis : Word} {bump : Option Word} :
    answersInFrame (storeThrough len g ty rd rs dis bump s) s len g false := ⟨_, rfl⟩

/-- A mode that writes its address register, which is neither the PC nor the SR (40 R218). -/
theorem nextOnly_frame {x : Out State} (h : rd.notPcSr = true) (hx : answersInFrame x s len g b) :
    answersInFrame (nextOnly rd x) s len g b := by
  rw [nextOnly_general h]; exact hx

theorem loadDis_frame {ty : DataType} {dis : Word} : answersInFrame (loadDis len ty rd rs dis s) s len (eitherGlobal rd rs) false := loadThrough_frame

theorem loadNext_frame {ty : DataType} {dis : Word} (h : rd.notPcSr = true) :
    answersInFrame (loadNext len ty rd rs dis s) s len (eitherGlobal rd rs) false := nextOnly_frame h loadThrough_frame

theorem loadReg_frame {ty : DataType} {ld : BitVec 4} : answersInFrame (loadReg ty ld rs s) s 1 rs.isGlobal false := loadThrough_frame

theorem loadPost_frame {ty : DataType} {ld : BitVec 4} : answersInFrame (loadPost ty ld rs s) s 1 rs.isGlobal false := loadThrough_frame

theorem storeDis_frame {ty : DataType} {dis : Word} : answersInFrame (storeDis len ty rd rs dis s) s len (eitherGlobal rd rs) false := storeThrough_frame

theorem storeNext_frame {ty : DataType} {dis : Word} (h : rd.notPcSr = true) :
    answersInFrame (storeNext len ty rd rs dis s) s len (eitherGlobal rd rs) false := nextOnly_frame h storeThrough_frame

theorem storeReg_frame {ty : DataType} {ld : BitVec 4} : answersInFrame (storeReg ty ld rs s) s 1 rs.isGlobal false := storeThrough_frame

theorem storePost_frame {ty : DataType} {ld : BitVec 4} : answersInFrame (storePost ty ld rs s) s 1 rs.isGlobal false := storeThrough_frame

theorem ldwS_frame {dis : DisW} (h : rd.notPcSr = true) :
    answersInFrame (execLdwS rd rs dis s) s (disWLength dis) (eitherGlobal rd rs) false := nextOnly_frame h ⟨_, rfl⟩

theorem stwS_frame {dis : DisW} (h : rd.notPcSr = true) :
    answersInFrame (execStwS rd rs dis s) s (disWLength dis) (eitherGlobal rd rs) false := nextOnly_frame h ⟨_, rfl⟩

theorem loadAbs_frame {ty : DataType} {dis : Word} : answersInFrame (loadAbs len ty rs dis s) s len true false := ⟨_, rfl⟩

theorem storeAbs_frame {ty : DataType} {dis : Word} : answersInFrame (storeAbs len ty rs dis s) s len true false := ⟨_, rfl⟩

theorem loadIoDis_frame {dis : Word} : answersInFrame (loadIoDis len b rd rs dis s) s len (eitherGlobal rd rs) false := ⟨_, rfl⟩

theorem loadIoAbs_frame {dis : Word} : answersInFrame (loadIoAbs len b rs dis s) s len true false := ⟨_, rfl⟩

theorem storeIoDis_frame {dis : Word} : answersInFrame (storeIoDis len b rd rs dis s) s len (eitherGlobal rd rs) false := ⟨_, rfl⟩

theorem storeIoAbs_frame {dis : Word} : answersInFrame (storeIoAbs len b rs dis s) s len true false := ⟨_, rfl⟩

theorem call_frame {ld : BitVec 4} {const : Const} : answersInFrame (execCall ld rs const s) s (constLength const) rs.isGlobal true := ⟨_, rfl⟩

theorem frame_frame {ld ls : BitVec 4} : answersInFrame (execFrame ld ls s) s 1 false false := ⟨_, rfl⟩

theorem ret_frame : answersInFrame (execRet rs s) s 1 true true := ⟨_, rfl⟩

theorem fetch_frame {n : BitVec 4} : answersInFrame (execFetch n s) s 1 true true := ⟨_, rfl⟩

/-- Every well-formed instruction, format by format. -/
theorem exec_runsAsEncoded (i : Instr) (s : State) (hw : i.wellFormed = true) : RunsAsEncoded (exec i s) i s := by
  cases i with
  | mov =>
    dsimp only [exec]; exact .of_move mov_frame rfl rfl rfl
  | movi =>
    dsimp only [exec]; exact .of_move movi_frame (imm_tail_length _) rfl rfl
  | add | sub =>
    dsimp only [exec]; exact .of_frame computeOrBranch_frame rfl rfl rfl (namesGlobal_RR rfl (by decide))
  | adds | addc | subs | subc | neg | negs =>
    dsimp only [exec]; exact .of_frame compute_frame rfl rfl rfl (namesGlobal_RR rfl (by decide))
  | and | andn | or | xor | not =>
    dsimp only [exec]; exact .of_frame logical_frame rfl rfl rfl (namesGlobal_RR rfl (by decide))
  | cmp | cmpb =>
    dsimp only [exec]; exact .of_frame computeFlags_frame rfl rfl rfl (namesGlobal_RR rfl (by decide))
  | chk =>
    dsimp only [exec]; exact .of_frame check_frame rfl rfl rfl (namesGlobal_RR rfl (by decide))
  | chkz =>
    dsimp only [exec]; exact .of_frame check_frame rfl rfl rfl (namesGlobal_RR_right rfl (by decide))
  | nop =>
    dsimp only [exec]; exact .of_frame check_frame rfl rfl rfl rfl
  | mul =>
    dsimp only [exec]; exact .of_frame mul_frame rfl rfl rfl (namesGlobal_RR rfl (by decide))
  | movd =>
    dsimp only [exec]; exact .of_frame movd_frame rfl rfl rfl (namesGlobal_RR rfl (by decide))
  | muls | mulu | divs | divu =>
    dsimp only [exec]; exact .of_frame anyOrPair_frame rfl rfl rfl (namesGlobal_RR rfl (by decide))
  | ret =>
    dsimp only [exec]; exact .of_frame ret_frame rfl rfl rfl (namesGlobal_RR_left rfl (by decide))
  | xm1 | xm2 | xm4 | xm8 =>
    dsimp only [exec]; exact .of_frame indexMove_frame (lim_encode_length _ _) rfl rfl (namesGlobal_RR rfl (by decide))
  | xx1 | xx2 | xx4 | xx8 =>
    dsimp only [exec]; exact .of_frame indexScale_frame (lim_encode_length _ _) rfl rfl (namesGlobal_RR rfl (by decide))
  | mask =>
    dsimp only [exec]; exact .of_frame logical_frame (const_encode_length _) rfl rfl (namesGlobal_RR rfl (by decide))
  | sum =>
    dsimp only [exec]; exact .of_frame computeOrBranch_frame (const_encode_length _) rfl rfl (namesGlobal_RR rfl (by decide))
  | sums =>
    dsimp only [exec]; exact .of_frame compute_frame (const_encode_length _) rfl rfl (namesGlobal_RR rfl (by decide))
  | cmpi | cmpbi =>
    dsimp only [exec]; exact .of_frame computeFlags_frame (imm_tail_length _) rfl rfl (namesGlobal_Rn rfl (by decide))
  | addi =>
    dsimp only [exec]; exact .of_frame computeOrBranch_frame (imm_tail_length _) rfl rfl (namesGlobal_Rn rfl (by decide))
  | addsi =>
    dsimp only [exec]; exact .of_frame compute_frame (imm_tail_length _) rfl rfl (namesGlobal_Rn rfl (by decide))
  | andni | ori | xori =>
    dsimp only [exec]; exact .of_frame logical_frame (imm_tail_length _) rfl rfl (namesGlobal_Rn rfl (by decide))
  | addiCz =>
    dsimp only [exec]; exact .of_frame computeOrBranch_frame rfl rfl rfl (namesGlobal_Rn rfl (by decide))
  | addsiCz | shri | sari | shli | setadr =>
    dsimp only [exec]; exact .of_frame compute_frame rfl rfl rfl (namesGlobal_Rn rfl (by decide))
  | cmpbiAnybz =>
    dsimp only [exec]; exact .of_frame computeFlags_frame rfl rfl rfl (namesGlobal_Rn rfl (by decide))
  | set1 | set0 | setle | setgt | setlt | setge | setse | setht | setst | sethe | sete | setne | setv | setnv
  | set1M | setleM | setgtM | setltM | setgeM | setseM | sethtM | setstM | setheM | seteM | setneM | setvM | setnvM =>
    dsimp only [exec]; exact .of_frame setIf_frame rfl rfl rfl (namesGlobal_Rn rfl (by decide))
  | fetch k =>
    dsimp only [exec]; exact .of_frame (fetch_frame (n := k)) rfl rfl rfl (namesGlobal_Rn (rd := .g 1) rfl (by decide))
  | shrdi | sardi | shldi =>
    dsimp only [exec]; exact .of_frame shiftPair_frame rfl rfl rfl (namesGlobal_Ln rfl (by decide))
  | shrd | sard | shld =>
    dsimp only [exec]; exact .of_frame anyOrShift_frame rfl rfl rfl (namesGlobal_LL rfl (by decide))
  | shr | sar | shl | testlz | rol =>
    dsimp only [exec]; exact .of_frame compute_frame rfl rfl rfl (namesGlobal_LL rfl (by decide))
  | fadd | faddd | fsub | fsubd | fmul | fmuld | fdiv | fdivd | fcmp | fcmpd | fcmpu | fcmpud | fcvt | fcvtd | softDo =>
    dsimp only [exec]; exact .of_frame software_frame rfl rfl rfl (namesGlobal_LL rfl (by decide))
  | emul | emulu | emuls | emac | emacd | emsub | emsubd | ehmac | ehmacd | ehcmuld | ehcmacd | ehcsumd | ehcfftd | ehcfftsd =>
    dsimp only [exec]; exact .of_frame dsp_frame rfl rfl rfl (namesGlobal_LL rfl (by decide))
  | frame =>
    dsimp only [exec]; exact .of_frame frame_frame rfl rfl rfl (namesGlobal_LL rfl (by decide))
  | call =>
    dsimp only [exec]; exact .of_frame call_frame (const_encode_length _) rfl rfl (namesGlobal_LR rfl (by decide))
  | bv | bnv | be | bne | bc | bnc | bse | bht | bn | bnn | ble | bgt | br =>
    dsimp only [exec]; exact .of_frame branch_frame (rel_encode_length _ _) rfl rfl (namesGlobal_rel rfl (by decide))
  | dbv | dbnv | dbe | dbne | dbc | dbnc | dbse | dbht | dbn | dbnn | dble | dbgt | dbr =>
    dsimp only [exec]; exact .of_frame delayedBranch_frame (rel_encode_length _ _) rfl rfl (namesGlobal_rel rfl (by decide))
  | traple | trapgt | traplt | trapge | trapse | trapht | trapst | traphe | trape | trapne | trapv | trap =>
    dsimp only [exec]; exact .of_frame trapIf_frame rfl rfl rfl (namesGlobal_trap rfl (by decide))
  | ldbsD | ldbuD =>
    dsimp only [exec]; exact .of_frame loadDis_frame (disB_encode_length _ _) rfl rfl (namesGlobal_RR rfl (by decide))
  | ldhuD | ldhsD =>
    dsimp only [exec]; exact .of_frame loadDis_frame (disH_encode_length _ _) rfl rfl (namesGlobal_RR rfl (by decide))
  | ldwD | lddD =>
    dsimp only [exec]; exact .of_frame loadDis_frame (disW_encode_length _ _) rfl rfl (namesGlobal_RR rfl (by decide))
  | stbsD | stbuD =>
    dsimp only [exec]; exact .of_frame storeDis_frame (disB_encode_length _ _) rfl rfl (namesGlobal_RR rfl (by decide))
  | sthuD | sthsD =>
    dsimp only [exec]; exact .of_frame storeDis_frame (disH_encode_length _ _) rfl rfl (namesGlobal_RR rfl (by decide))
  | stwD | stdD =>
    dsimp only [exec]; exact .of_frame storeDis_frame (disW_encode_length _ _) rfl rfl (namesGlobal_RR rfl (by decide))
  | ldbsN | ldbuN =>
    dsimp only [exec]; exact .of_frame (loadNext_frame hw) (disB_encode_length _ _) rfl rfl (namesGlobal_RR rfl (by decide))
  | ldhuN | ldhsN =>
    dsimp only [exec]; exact .of_frame (loadNext_frame hw) (disH_encode_length _ _) rfl rfl (namesGlobal_RR rfl (by decide))
  | ldwN | lddN =>
    dsimp only [exec]; exact .of_frame (loadNext_frame hw) (disW_encode_length _ _) rfl rfl (namesGlobal_RR rfl (by decide))
  | stbsN | stbuN =>
    dsimp only [exec]; exact .of_frame (storeNext_frame hw) (disB_encode_length _ _) rfl rfl (namesGlobal_RR rfl (by decide))
  | sthuN | sthsN =>
    dsimp only [exec]; exact .of_frame (storeNext_frame hw) (disH_encode_length _ _) rfl rfl (namesGlobal_RR rfl (by decide))
  | stwN | stdN =>
    dsimp only [exec]; exact .of_frame (storeNext_frame hw) (disW_encode_length _ _) rfl rfl (namesGlobal_RR rfl (by decide))
  | ldwS => exact .of_frame (ldwS_frame hw) (disW_encode_length _ _) rfl rfl (namesGlobal_RR rfl (by decide))
  | stwS => exact .of_frame (stwS_frame hw) (disW_encode_length _ _) rfl rfl (namesGlobal_RR rfl (by decide))
  | ldbsA | ldbuA =>
    dsimp only [exec]; exact .of_frame loadAbs_frame (disB_encode_length _ _) rfl rfl (namesGlobal_RR_left rfl (by decide))
  | ldhuA | ldhsA =>
    dsimp only [exec]; exact .of_frame loadAbs_frame (disH_encode_length _ _) rfl rfl (namesGlobal_RR_left rfl (by decide))
  | ldwA | lddA =>
    dsimp only [exec]; exact .of_frame loadAbs_frame (disW_encode_length _ _) rfl rfl (namesGlobal_RR_left rfl (by decide))
  | stbsA | stbuA =>
    dsimp only [exec]; exact .of_frame storeAbs_frame (disB_encode_length _ _) rfl rfl (namesGlobal_RR_left rfl (by decide))
  | sthuA | sthsA =>
    dsimp only [exec]; exact .of_frame storeAbs_frame (disH_encode_length _ _) rfl rfl (namesGlobal_RR_left rfl (by decide))
  | stwA | stdA =>
    dsimp only [exec]; exact .of_frame storeAbs_frame (disW_encode_length _ _) rfl rfl (namesGlobal_RR_left rfl (by decide))
  | ldwIod | lddIod =>
    dsimp only [exec]; exact .of_frame loadIoDis_frame (disW_encode_length _ _) rfl rfl (namesGlobal_RR rfl (by decide))
  | ldwIoa | lddIoa =>
    dsimp only [exec]; exact .of_frame loadIoAbs_frame (disW_encode_length _ _) rfl rfl (namesGlobal_RR_left rfl (by decide))
  | stwIod | stdIod =>
    dsimp only [exec]; exact .of_frame storeIoDis_frame (disW_encode_length _ _) rfl rfl (namesGlobal_RR rfl (by decide))
  | stwIoa | stdIoa =>
    dsimp only [exec]; exact .of_frame storeIoAbs_frame (disW_encode_length _ _) rfl rfl (namesGlobal_RR_left rfl (by decide))
  | ldwR | lddR =>
    dsimp only [exec]; exact .of_frame loadReg_frame rfl rfl rfl (namesGlobal_LR rfl (by decide))
  | ldwP | lddP =>
    dsimp only [exec]; exact .of_frame loadPost_frame rfl rfl rfl (namesGlobal_LR rfl (by decide))
  | stwR | stdR =>
    dsimp only [exec]; exact .of_frame storeReg_frame rfl rfl rfl (namesGlobal_LR rfl (by decide))
  | stwP | stdP =>
    dsimp only [exec]; exact .of_frame storePost_frame rfl rfl rfl (namesGlobal_LR rfl (by decide))

end

/-! ### What the frame refuses -/

theorem frameRefusal_highGlobal {s : State} {len : Nat} {b : Bool} (h : s.sr.h = true) :
    s.frameRefusal len true b = some .highGlobal := by
  unfold State.frameRefusal; rw [h]; rfl

theorem frameRefusal_pairTooLong {s : State} {len : Nat} {g : Bool} (h : (s.sr.h && g) = false) (hd : s.delay ≠ .none)
    (hl : 3 < s.sr.ilc.toNat + len) : s.frameRefusal len g false = some .delayPairTooLong := by
  unfold State.frameRefusal
  rw [if_neg (by simp [h])]
  split
  · contradiction
  · rw [if_neg (by decide), if_pos hl]

/-- Settles O60: every instruction runs in the frame that its encoding says, which refuses these forms before the instruction begins. -/
theorem formsWithoutMeaning : Obligations.FormsWithoutMeaning := by
  intro i s hw
  obtain ⟨g, ⟨body, he⟩, hg⟩ := exec_runsAsEncoded i s hw
  rw [he]
  refine ⟨fun hh hm hn => ?_, fun hd hglobal => ?_⟩
  · rcases hg with ⟨-, rfl⟩ | ⟨hm', -⟩
    · rw [hn]; exact instruction_refused (frameRefusal_highGlobal hh)
    · rw [hm] at hm'; cases hm'
  · have hfree : (s.sr.h && g) = false := by
      rcases hg with ⟨hm, rfl⟩ | ⟨-, rfl⟩
      · rcases hglobal with hh | hm' | hn
        · rw [hh, Bool.false_and]
        · rw [hm] at hm'; cases hm'
        · rw [hn, Bool.and_false]
      · exact Bool.and_false _
    refine ⟨fun hb => ?_, fun hb hl => ?_⟩ <;> rw [hb]
    · exact instruction_refused (frameRefusal_slot hfree hd)
    · exact instruction_refused (frameRefusal_pairTooLong hfree hd hl)

end Sys2Proof.Machine
